-- ==== Sys2Proof/Word.lean ====
section
/-! DEFINITION. The byte, the only machine word of PTSM (rule R11: a byte is 8 bits; rule R42: every buffer access moves one byte). -/

namespace Sys2Proof

/-- A byte (rule R11). -/
abbrev Byte := BitVec 8

end Sys2Proof
end

