-- ==== Sys2Proof/Config.lean ====
section
/-! DEFINITION. What a deployment fixes (rules R7 and R8), the reference configuration CFG_REF, and the free values: constants with no
body, which stand for every value the spec calls `any` (rules R34, R54, R119; 93_implementation_defined.md U1, U13, U23). -/

namespace Sys2Proof

/-- The three buffer spaces of rule R35. -/
inductive Space where
  | txbuf
  | slot0
  | slot1
deriving DecidableEq, Repr

/-- The parameters of rules R7 and R8. They are fixed before reset and constant afterwards; State carries them so that every
statement holds for every configuration (assumption log 1). -/
structure Config where
  /-- `CAPACITY`: payload bytes each buffer can store. -/
  capacity : Nat
  /-- `RX_HEADER_OVERHEAD`. -/
  rxHeaderOverhead : Nat
  /-- `TRAILER_LEN`. -/
  trailerLen : Nat
  /-- `CHANNEL_FREE_MAX`. -/
  channelFreeMax : Nat
  /-- `FREE_W`: width of `free_count`. -/
  freeW : Nat
  /-- `COUNT_W`: width of `byte_count` and `total_bytes`. -/
  countW : Nat
  sync0 : Byte
  sync1 : Byte
  preambleByte : Byte
  trailerByte : Byte
  dummyByte : Byte
  /-- `STATUS_W`: width of the chip status word. -/
  statusW : Nat
  readyMask : Nat
  carrierMask : Nat
  /-- `INIT_SEQ`: the configuration words INIT writes, in order; their numbers and width are the platform's (rule R72). -/
  initSeq : List Nat
  caEnabled : Bool
  polling : Bool
  rxOnly : Bool
deriving DecidableEq, Repr

/-- `TX_OVERHEAD = 2 + 3 + TRAILER_LEN` (rule R7). -/
def Config.txOverhead (c : Config) : Nat := 2 + 3 + c.trailerLen

/-- A mask with exactly one bit set, inside a word of `w` bits (rule R7). -/
def Config.oneBit (w mask : Nat) : Bool := (List.range w).any (fun i => mask == 2 ^ i)

/-- The constraints of rule R7's table. -/
abbrev Config.Valid (c : Config) : Prop :=
  (1 ≤ c.capacity ∧ c.capacity ≤ 254) ∧
  3 ≤ c.rxHeaderOverhead ∧
  (1 ≤ c.trailerLen ∧ c.rxHeaderOverhead - 2 ≤ c.trailerLen) ∧
  c.channelFreeMax < 2 ^ c.freeW ∧
  1 ≤ c.freeW ∧
  255 + max c.rxHeaderOverhead c.txOverhead < 2 ^ c.countW ∧
  2 ≤ c.statusW ∧
  Config.oneBit c.statusW c.readyMask = true ∧
  Config.oneBit c.statusW c.carrierMask = true ∧
  c.readyMask ≠ c.carrierMask

/-- CFG_REF, the reference configuration of rules R7 and R8. -/
def Config.ref : Config where
  capacity := 30
  rxHeaderOverhead := 3
  trailerLen := 1
  channelFreeMax := 4
  freeW := 8
  countW := 16
  sync0 := 0x2D
  sync1 := 0xD4
  preambleByte := 0xAA
  trailerByte := 0xAA
  dummyByte := 0xAA
  statusW := 16
  readyMask := 0x8000
  carrierMask := 0x0100
  initSeq := []
  caEnabled := true
  polling := false
  rxOnly := false

/-- FREE VALUE (rule R54): the Chip's answer to the status read numbered by the draw counter. -/
opaque Config.freeStatus : Nat → Nat

/-- FREE VALUE (rule R54): the byte the Chip delivers. -/
opaque Config.freeRxByte : Nat → Byte

/-- FREE VALUE (rule R134): where, if anywhere, the running stretch of Mainline is preempted. -/
opaque Config.freeChoice : Nat → Option Nat

/-- FREE VALUE (rule R119): what RX_LEN, RX_TYPE and RX_DATA answer on a slot that is not Complete. -/
opaque Config.freeAccess : Nat → Byte

/-- FREE VALUE (rule R34): what INIT leaves in `byte_count` and `total_bytes`. -/
opaque Config.freeCounter : Nat → Nat

/-- FREE VALUE (rule R34): what INIT leaves in `chk_acc`. -/
opaque Config.freeChk : Nat → Byte

/-- FREE VALUE (rule R34): what a buffer byte that nothing has written holds. -/
opaque Config.powerOnByte : Space → Nat → Byte

end Sys2Proof
end

