-- ==== Sys2Proof/Syntax.lean ====
section
/-! DEFINITION. The operations of PTSM, one constructor per row of spec/opcode_table.json: nine host operations (format HCW), five
handler transitions (format HEV), eight bus transactions (format BUS); and the formats that carry them (rules R60, R66, R72). -/

namespace Sys2Proof

/-- The closed set of operations of rules R9 and R44. -/
inductive Instr where
  /-- `INIT` (rule R120). -/
  | init
  /-- `TICK` (rule R100). -/
  | tick
  /-- `ENQUEUE type, length, payload` (rule R110). -/
  | enqueue (typ len : Byte) (payload : List Byte)
  /-- `RX_STATUS` (rule R114). -/
  | rxStatus
  /-- `RX_LEN` (rule R115). -/
  | rxLen
  /-- `RX_TYPE` (rule R116). -/
  | rxType
  /-- `RX_DATA index` (rule R117). -/
  | rxData (index : Byte)
  /-- `RX_CLEAR` (rule R118). -/
  | rxClear
  /-- `POLL` (rule R122). -/
  | poll
  /-- `H_NONE` (rule R86). -/
  | hNone
  /-- `H_RXIDLE` (rule R88). -/
  | hRxIdle
  /-- `H_RXACTIVE` (rule R89). -/
  | hRxActive
  /-- `H_TX` (rule R91). -/
  | hTx
  /-- `H_RSVD` (rule R92). -/
  | hRsvd
  /-- `RdStatus` (rule R44). -/
  | rdStatus
  /-- `RdByte` (rule R44). -/
  | rdByte
  /-- `WrByte b` (rule R44). -/
  | wrByte (b : Byte)
  /-- `ModeTx` (rule R124). -/
  | modeTx
  /-- `ModeRx` (rule R124). -/
  | modeRx
  /-- `QueueClear` (rule R125). -/
  | queueClear
  /-- `QueueArm` (rule R125). -/
  | queueArm
  /-- `WrCfg w` (rules R44, R120). -/
  | wrCfg (w : Nat)
deriving DecidableEq, Repr

/-- What the host presents in one transaction: the 20-bit command word of rule R60 and, for ENQUEUE, the payload vector of rule R63. -/
structure HostCommand where
  word : BitVec 20
  payload : List Byte
deriving DecidableEq, Repr

/-- A bus command word (rule R72). Its numeric value is the platform's, so it is kept symbolic; a word of `INIT_SEQ` is sent as it
stands. -/
inductive BusWord where
  | cmdStatus
  | cmdRxByte
  | cmdTxByte (b : Byte)
  | cmdModeTx
  | cmdModeRx
  | cmdQueueClear
  | cmdQueueArm
  | cfgWord (w : Nat)
deriving DecidableEq, Repr

/-- An operation in the format that carries it (rule R55). -/
inductive Encoded where
  | hcw (c : HostCommand)
  | hev (key : BitVec 3)
  | bus (w : BusWord)
deriving DecidableEq, Repr

end Sys2Proof
end

