-- ==== Sys2Proof/Machine/State.lean ====
section
/-! DEFINITION. The state of PTSM: the registers CR0 to CR8 and the three buffers (rules R13 to R26), the place Mainline has reached
(rules R14, R49), what the world outside will present (rules R29, R54, R60) and what PTSM has put out (rules R45, R64). Plain data. -/

namespace Sys2Proof.Machine

open Sys2Proof

/-- `protocol_state` (rule R15). -/
inductive ProtocolState where
  | receiveIdle
  | receiveActive
  | transmitting
  | reserved
deriving DecidableEq, Repr

/-- The 2-bit status tag (rule R20). -/
inductive Tag where
  | free
  | occupied
  | complete
  | reserved
deriving DecidableEq, Repr

/-- The result codes of rule R127. -/
inductive ResultCode where
  | ok
  | busy
  | tooLarge
  | notComplete
  | illegal
deriving DecidableEq, Repr

/-- Format HRS, the response to a host operation (rule R64). -/
structure Response where
  rc : ResultCode
  rdata : Byte
deriving DecidableEq, Repr

/-- One event of the bus trace (rule R45); a read carries the Chip's answer. -/
inductive Event where
  | rdStatus (w : Nat)
  | rdByte (b : Byte)
  | wrByte (b : Byte)
  | modeTx
  | modeRx
  | queueClear
  | queueArm
  | wrCfg (w : Nat)
  | intMask
  | intUnmask
deriving DecidableEq, Repr

/-- A Mainline micro-step (92_eei_decisions.md D27), and the preemption point `<P>` of rule R49 that stands between two of them. -/
inductive Micro where
  /-- `<P>`. -/
  | point
  /-- The operation ends with this result code and `rdata` 0x00 (`raise`, or `return` when the code is OK). -/
  | raise (rc : ResultCode)
  /-- Step T1 of TICK (rule R101). -/
  | tickIdle
  /-- Step T2 of TICK (rule R102). -/
  | tickSense
  /-- Step T3 of TICK (rule R103). -/
  | tickCount
  /-- Step T4 of TICK (rule R104). -/
  | tickArm
  /-- The two tests of ENQUEUE (rule R110). -/
  | enqCheck (len : Byte)
  /-- One byte write of ENQUEUE into TXBUF (rule R110). -/
  | txStore (offset : Nat) (b : Byte)
  /-- The last write of ENQUEUE, `tx_request <- Occupied` (rule R110). -/
  | enqTag
  /-- The read of RX_STATUS (rule R114). -/
  | rxStatus
  /-- The read of RX_LEN (rule R115). -/
  | rxLen
  /-- The read of RX_TYPE (rule R116). -/
  | rxType
  /-- The read of RX_DATA (rule R117). -/
  | rxData (index : Byte)
  /-- The test and the first write of RX_CLEAR (rule R118). -/
  | rxClearTag
  /-- The second write of RX_CLEAR (rule R118). -/
  | rxClearFlip
deriving DecidableEq, Repr

/-- One buffer space: the bytes written so far, by offset, strictly rising. An unlisted offset has been written by nothing and holds
its power-on byte, a free value (rule R34; assumption log 4). -/
abbrev Memory := List Host.Cell

/-- Everything the spec gives the machine, with the model's own bookkeeping. -/
structure State where
  /-- The configuration of rules R7 and R8; no step changes it. -/
  cfg : Config
  /-- CR0. -/
  protocolState : ProtocolState
  /-- CR1, below 2^COUNT_W. -/
  byteCount : Nat
  /-- CR2, below 2^COUNT_W. -/
  totalBytes : Nat
  /-- CR3. -/
  bufferIn : BitVec 1
  /-- CR4. -/
  bufferOut : BitVec 1
  /-- CR5. -/
  txRequest : Tag
  /-- CR6. -/
  chkAcc : Byte
  /-- CR7, at most CHANNEL_FREE_MAX. -/
  freeCount : Nat
  /-- CR8. -/
  intMasked : Bool
  /-- TXBUF (rules R25, R37). -/
  txbuf : Memory
  /-- The raw bytes of SLOT0 (rules R26, R38). -/
  raw0 : Memory
  /-- The raw bytes of SLOT1. -/
  raw1 : Memory
  /-- The status tag of SLOT0. -/
  status0 : Tag
  /-- The status tag of SLOT1. -/
  status1 : Tag
  /-- INIT has been performed (rules R121, R134). -/
  initDone : Bool
  /-- A Handler invocation is in progress (rules R85, R134). -/
  inHandler : Bool
  /-- The rest of the host operation in progress; empty between two operations (rules R14, R49). -/
  mainline : List Micro
  /-- Input: the commands the host will present, first one first. -/
  hostQueue : List HostCommand
  /-- Input: the Chip's coming answers to status reads; past its end the answer is a free value (rule R54). -/
  statusAnswers : List Nat
  /-- Input: the Chip's coming answers to byte reads; past its end a free value (rule R54). -/
  byteAnswers : List Byte
  /-- Input: for each coming stretch of Mainline, where it is preempted; past its end a free value (rule R134, assumption log 6). -/
  schedule : List (Option Nat)
  /-- How many free values have been drawn. -/
  draws : Nat
  /-- Output: the bus trace, oldest event first (rule R45). -/
  trace : List Event
  /-- Output: the responses given to the host, oldest first (rule R64). -/
  responses : List Response
deriving DecidableEq, Repr

/-- Why the machine stops with a fault. -/
inductive Fault where
  /-- An access to a buffer offset that does not exist (rule R41). Raised by H_TX and by a suspended ENQUEUE's byte write, only in
  states no run reaches. Safe: the machine stops where the hardware has no byte. -/
  | outsideBuffer (space : Space) (offset : Nat)
deriving DecidableEq, Repr

/-- Why an operation has no meaning. -/
inductive Refusal where
  /-- Raised by an arm of exec whose instruction has no meaning yet. Safe. -/
  | notModelled (mnemonic : String)
  /-- A host operation other than INIT before the first INIT (rule R121, U7). Raised by every host operation but INIT. Safe. -/
  | beforeInit
  /-- An INIT after the first (rule R121, U8). Raised by INIT. Safe. -/
  | secondInit
  /-- ENQUEUE presented without exactly `length` payload bytes (rule R63). Raised by step, when it reads the command. Safe. -/
  | payloadMismatch
deriving DecidableEq, Repr

/-- The state after hardware reset under a configuration (rules R34, R147). `byte_count`, `total_bytes` and `chk_acc` have no
reset value in the spec; the value 0 is a DESIGN CHOICE (assumption log 3), and INIT replaces it by free values. -/
def State.resetWith (cfg : Config) : State where
  cfg := cfg
  protocolState := .receiveIdle
  byteCount := 0
  totalBytes := 0
  bufferIn := 0
  bufferOut := 0
  txRequest := .free
  chkAcc := 0
  freeCount := cfg.channelFreeMax
  intMasked := true
  txbuf := []
  raw0 := []
  raw1 := []
  status0 := .free
  status1 := .free
  initDone := false
  inHandler := false
  mainline := []
  hostQueue := []
  statusAnswers := []
  byteAnswers := []
  schedule := []
  draws := 0
  trace := []
  responses := []

/-- The state after hardware reset under CFG_REF (assumption log 1). -/
def State.reset : State := State.resetWith Config.ref

end Sys2Proof.Machine
end

