-- ==== Sys2Proof/Machine/Ops.lean ====
section
/-! DEFINITION. The named operations over memory, registers and the outside world: buffer reads and writes, the bus transactions of
rule R44, the interrupt mask, entering and leaving the Handler, the reset path, the response, and the draws of free values. -/

namespace Sys2Proof.Machine

open Sys2Proof

/-- The canonical form of a buffer space: offsets strictly rising. -/
abbrev Memory.wf (m : Memory) : Prop := List.Pairwise (fun x y => x.1 < y.1) m

/-- The byte written at an offset, if any has been. -/
def Memory.get? : Memory → Nat → Option Byte
  | [], _ => none
  | (k, b) :: m, a => if a = k then some b else Memory.get? m a

/-- Write one byte, keeping the canonical form. -/
def Memory.set : Memory → Nat → Byte → Memory
  | [], a, b => [(a, b)]
  | (k, c) :: m, a, b =>
    if a < k then (a, b) :: (k, c) :: m
    else if a = k then (a, b) :: m
    else (k, c) :: Memory.set m a b

/-- The size of a buffer space in bytes (rule R35). -/
def State.size (s : State) : Space → Nat
  | .txbuf => 5 + s.cfg.capacity
  | .slot0 => 3 + s.cfg.capacity
  | .slot1 => 3 + s.cfg.capacity

/-- The bytes of a buffer space. -/
def State.mem (s : State) : Space → Memory
  | .txbuf => s.txbuf
  | .slot0 => s.raw0
  | .slot1 => s.raw1

/-- The byte at an offset of a buffer space: the one written last, else the power-on byte (rules R34, R47). -/
def State.byteAt (s : State) (sp : Space) (a : Nat) : Byte :=
  (Memory.get? (s.mem sp) a).getD (Config.powerOnByte sp a)

/-- `MemRead(space, addr, 1)` (rule R11); none at an offset that does not exist (rule R41). -/
def State.memRead (s : State) (sp : Space) (a : Nat) : Option Byte :=
  if a < s.size sp then some (s.byteAt sp a) else none

/-- `MemWrite(space, addr, 1, v)` (rule R11), at an offset its caller has bounded (rule R41). -/
def State.memWrite (s : State) (sp : Space) (a : Nat) (b : Byte) : State :=
  match sp with
  | .txbuf => { s with txbuf := Memory.set s.txbuf a b }
  | .slot0 => { s with raw0 := Memory.set s.raw0 a b }
  | .slot1 => { s with raw1 := Memory.set s.raw1 a b }

/-- The buffer space of `slot[k]` (rule R11). -/
def slotSpace (k : BitVec 1) : Space := if k = 0 then .slot0 else .slot1

/-- `slot[k].status` (rule R26). -/
def State.slotStatus (s : State) (k : BitVec 1) : Tag := if k = 0 then s.status0 else s.status1

/-- `slot[k].status <- t`. -/
def State.setSlotStatus (s : State) (k : BitVec 1) (t : Tag) : State :=
  if k = 0 then { s with status0 := t } else { s with status1 := t }

/-- Append one event to the bus trace (rule R45). -/
def State.emit (s : State) (e : Event) : State := { s with trace := s.trace ++ [e] }

/-- End a host operation with a response (rule R64). -/
def State.respond (s : State) (rc : ResultCode) (rdata : Byte) : State :=
  { s with responses := s.responses ++ [⟨rc, rdata⟩] }

/-- The word the Chip answers to the next status read, cut to STATUS_W bits (rules R44, R54). -/
def State.statusWord (s : State) : Nat :=
  (match s.statusAnswers with
    | w :: _ => w
    | [] => Config.freeStatus s.draws) % 2 ^ s.cfg.statusW

/-- The state once the Chip's next status answer has been taken. -/
def State.takeStatus (s : State) : State :=
  match s.statusAnswers with
  | _ :: ws => { s with statusAnswers := ws }
  | [] => { s with draws := s.draws + 1 }

/-- The bus transaction `RdStatus()` (rule R44); the answer is `statusWord`. -/
def State.rdStatus (s : State) : State := s.takeStatus.emit (.rdStatus s.statusWord)

/-- The byte the Chip delivers to the next byte read (rules R44, R54). -/
def State.rxByte (s : State) : Byte :=
  match s.byteAnswers with
  | b :: _ => b
  | [] => Config.freeRxByte s.draws

/-- The state once the Chip's next byte has been taken. -/
def State.takeByte (s : State) : State :=
  match s.byteAnswers with
  | _ :: bs => { s with byteAnswers := bs }
  | [] => { s with draws := s.draws + 1 }

/-- The bus transaction `RdByte()` (rule R44); the answer is `rxByte`. -/
def State.rdByte (s : State) : State := s.takeByte.emit (.rdByte s.rxByte)

/-- The bus transaction `WrByte(b)` (rule R44). -/
def State.wrByte (s : State) (b : Byte) : State := s.emit (.wrByte b)

/-- The bus transaction `ModeTx()` (rules R44, R124). -/
def State.modeTx (s : State) : State := s.emit .modeTx

/-- The bus transaction `ModeRx()` (rules R44, R124). -/
def State.modeRx (s : State) : State := s.emit .modeRx

/-- The bus transaction `QueueClear()` (rules R44, R125). -/
def State.queueClear (s : State) : State := s.emit .queueClear

/-- The bus transaction `QueueArm()` (rules R44, R125). -/
def State.queueArm (s : State) : State := s.emit .queueArm

/-- The bus transaction `WrCfg(w)` (rules R44, R120). -/
def State.wrCfg (s : State) (w : Nat) : State := s.emit (.wrCfg w)

/-- `IntMask()` (rule R123). -/
def State.intMask (s : State) : State := { s.emit .intMask with intMasked := true }

/-- `IntUnmask()` (rule R123). -/
def State.intUnmask (s : State) : State := { s.emit .intUnmask with intMasked := false }

/-- TAKING THE INTERRUPT: the entry of a Handler invocation. It masks the source and saves nothing; the Handler is fixed (rules
R85, R133, R137). -/
def State.enterHandler (s : State) : State := { s.intMask with inHandler := true }

/-- The return from the Handler: it unmasks the source and restores nothing (rules R85, R138). -/
def State.leaveHandler (s : State) : State := { s.intUnmask with inHandler := false }

/-- Whether a Handler invocation may start at a preemption point (rules R49, R134). -/
def State.admitsHandler (s : State) : Bool :=
  s.initDone && !s.intMasked && !s.inHandler && !s.cfg.polling

/-- `ResetPath()` (rule R93). -/
def State.resetPath (s : State) : State :=
  { s.queueClear.queueArm with protocolState := .receiveIdle }

/-- Where the coming stretch of Mainline is preempted: `some k`, at the admitted preemption point that has `k` admitted ones before
it; `none`, nowhere (rule R134; assumption log 6). -/
def State.choice (s : State) : Option Nat :=
  match s.schedule with
  | c :: _ => c
  | [] => Config.freeChoice s.draws

/-- The state once that choice has been taken. -/
def State.takeChoice (s : State) : State :=
  match s.schedule with
  | _ :: cs => { s with schedule := cs }
  | [] => { s with draws := s.draws + 1 }

/-- The state in which a stretch of Mainline starts: the choice taken, no earlier position left. -/
def State.opStart (s : State) : State := { s.takeChoice with mainline := [] }

end Sys2Proof.Machine
end

