-- ==== Sys2Proof/Machine/Bus.lean ====
section
/-! DEFINITION. The eight bus transactions as operations of their own (rules R44, R124, R125). Each appends its event to the trace; a
read takes the Chip's next answer, which the event carries (assumption log 16). -/

namespace Sys2Proof.Machine

open Sys2Proof

/-- RdStatus (rule R44). -/
def execRdStatus (s : State) : Host.Outcome State Fault Refusal := .next s.rdStatus

/-- RdByte (rule R44). -/
def execRdByte (s : State) : Host.Outcome State Fault Refusal := .next s.rdByte

/-- WrByte (rule R44). -/
def execWrByte (b : Byte) (s : State) : Host.Outcome State Fault Refusal := .next (s.wrByte b)

/-- ModeTx (rule R124). -/
def execModeTx (s : State) : Host.Outcome State Fault Refusal := .next s.modeTx

/-- ModeRx (rule R124). -/
def execModeRx (s : State) : Host.Outcome State Fault Refusal := .next s.modeRx

/-- QueueClear (rule R125). -/
def execQueueClear (s : State) : Host.Outcome State Fault Refusal := .next s.queueClear

/-- QueueArm (rule R125). -/
def execQueueArm (s : State) : Host.Outcome State Fault Refusal := .next s.queueArm

/-- WrCfg (rules R44, R120). -/
def execWrCfg (w : Nat) (s : State) : Host.Outcome State Fault Refusal := .next (s.wrCfg w)

end Sys2Proof.Machine
end

