-- ==== Sys2Proof/Machine/Flags.lean ====
section
/-! DEFINITION. The tests and codes of the machine's flags: the codes of `protocol_state`, the tags and the results (rules R15, R20,
R127), the two bits of the status word (rule R68), and the key that selects a handler transition (rule R66). -/

namespace Sys2Proof.Machine

open Sys2Proof

/-- The 2-bit code of `protocol_state` (rule R15). -/
def ProtocolState.code : ProtocolState → BitVec 2
  | .receiveIdle => 0
  | .receiveActive => 1
  | .transmitting => 2
  | .reserved => 3

/-- The state with a given code (rule R15). -/
def ProtocolState.ofCode (c : BitVec 2) : ProtocolState :=
  if c = 0 then .receiveIdle else if c = 1 then .receiveActive else if c = 2 then .transmitting else .reserved

/-- The tag's code as RX_STATUS returns it, zero-extended to a byte (rules R20, R114). -/
def Tag.code : Tag → Byte
  | .free => 0
  | .occupied => 1
  | .complete => 2
  | .reserved => 3

/-- `rc[2:0]` (rule R127). -/
def ResultCode.code : ResultCode → BitVec 3
  | .ok => 0
  | .busy => 1
  | .tooLarge => 2
  | .notComplete => 3
  | .illegal => 4

/-- The ready bit of a status word is set (rules R66, R68). -/
def readyIn (cfg : Config) (w : Nat) : Bool := (w &&& cfg.readyMask) != 0

/-- The carrier bit of a status word is set (rule R68). -/
def carrierIn (cfg : Config) (w : Nat) : Bool := (w &&& cfg.carrierMask) != 0

/-- Format HEV: the ready bit above the two bits of `protocol_state` (rule R66). -/
def hevKey (ready : Bool) (p : ProtocolState) : BitVec 3 := BitVec.ofBool ready ++ p.code

end Sys2Proof.Machine
end

