-- ==== Sys2Proof/Machine/Operands.lean ====
section
/-! DEFINITION. The computed quantities of rule R70: the checksum, the two totals, the transmit sequence and the raw offset of a payload
byte. -/

namespace Sys2Proof.Machine

open Sys2Proof

/-- `CHK(length, type)` (rule R77). -/
def chk (len typ : Byte) : Byte := len ^^^ typ ^^^ 0xFF

/-- The receive total, `zext(length) + RX_HEADER_OVERHEAD` (rule R70). -/
def rxTotal (cfg : Config) (len : Byte) : Nat := len.toNat + cfg.rxHeaderOverhead

/-- The transmit total, `zext(length) + TX_OVERHEAD` (rule R70). -/
def txTotal (cfg : Config) (len : Byte) : Nat := len.toNat + cfg.txOverhead

/-- `TXSEQ(n)` (rule R80): the buffer byte below `5 + L`, then the trailer byte; none at an offset that does not exist. -/
def State.txSeq (s : State) (n : Nat) : Option Byte :=
  if n < 5 + (s.byteAt .txbuf 2).toNat then s.memRead .txbuf n else some s.cfg.trailerByte

/-- The byte of a slot at a raw offset (rule R38). -/
def State.slotByte (s : State) (k : BitVec 1) (n : Nat) : Byte := s.byteAt (slotSpace k) n

end Sys2Proof.Machine
end

