-- ==== Sys2Proof/Machine/Mainline.lean ====
section
/-! DEFINITION. How Mainline runs: each micro-step of a host operation, and the run of a list of them up to its end or to the preemption
point where a Handler invocation starts (rules R10, R48, R49, R134, R137). -/

namespace Sys2Proof.Machine

open Sys2Proof

/-- What a micro-step comes to: Mainline goes on, the operation has ended with its response, or the machine faults. -/
inductive Progress where
  | go (s : State)
  | ended (s : State)
  | bad (f : Fault)
deriving Repr

/-- Step T1 of TICK (rule R101). -/
def tickIdleStep (s : State) : Progress :=
  if s.protocolState = .receiveIdle then .go s else .ended (s.respond .ok 0)

/-- The carrier sense itself: `IntMask(); w <- RdStatus(); IntUnmask()` (rule R102). -/
def State.senseCarrier (s : State) : State := s.intMask.rdStatus.intUnmask

/-- Step T2 of TICK (rule R102). -/
def tickSenseStep (s : State) : Progress :=
  if carrierIn s.cfg s.statusWord then
    .ended ({ s.senseCarrier with freeCount := s.cfg.channelFreeMax }.respond .ok 0)
  else .go s.senseCarrier

/-- Step T3 of TICK (rule R103). -/
def tickCountStep (s : State) : Progress :=
  if s.freeCount = 0 then .go s
  else .ended ({ s with freeCount := s.freeCount - 1 }.respond .ok 0)

/-- The masked region of step T4 (rule R104). -/
def State.armTransmission (s : State) : State :=
  let m := s.intMask
  let armed := { m with
    totalBytes := txTotal m.cfg (m.byteAt .txbuf 2)
    byteCount := 0
    protocolState := .transmitting }
  ((armed.wrByte s.cfg.preambleByte).wrByte s.cfg.preambleByte).modeTx.intUnmask

/-- Step T4 of TICK (rule R104). -/
def tickArmStep (s : State) : Progress :=
  if s.txRequest = .occupied then .go s.armTransmission else .go s

/-- The two tests of ENQUEUE, Busy first (rules R110, R111). -/
def enqCheckStep (len : Byte) (s : State) : Progress :=
  if s.txRequest ≠ .free then .ended (s.respond .busy 0)
  else if s.cfg.capacity < len.toNat then .ended (s.respond .tooLarge 0)
  else .go s

/-- One byte write of ENQUEUE (rule R110). -/
def txStoreStep (offset : Nat) (b : Byte) (s : State) : Progress :=
  if offset < s.size .txbuf then .go (s.memWrite .txbuf offset b) else .bad (.outsideBuffer .txbuf offset)

/-- A byte of `slot[buffer_out]` where the slot is Complete, else a free value (rules R115 to R117, R119). -/
def readCompleteStep (n : Nat) (s : State) : Progress :=
  if s.slotStatus s.bufferOut = .complete then .ended (s.respond .ok (s.slotByte s.bufferOut n))
  else .ended ({ s with draws := s.draws + 1 }.respond .ok (Config.freeAccess s.draws))

/-- The read of RX_DATA, its index bounded first (rules R117, R136). -/
def rxDataStep (index : Byte) (s : State) : Progress :=
  if s.cfg.capacity ≤ index.toNat then .ended (s.respond .illegal 0)
  else readCompleteStep (3 + index.toNat) s

/-- The test and first write of RX_CLEAR (rule R118). -/
def rxClearTagStep (s : State) : Progress :=
  if s.slotStatus s.bufferOut = .complete then .go (s.setSlotStatus s.bufferOut .free)
  else .ended (s.respond .notComplete 0)

/-- One micro-step. -/
def microStep : Micro → State → Progress
  | .point, s => .go s
  | .raise rc, s => .ended (s.respond rc 0)
  | .tickIdle, s => tickIdleStep s
  | .tickSense, s => tickSenseStep s
  | .tickCount, s => tickCountStep s
  | .tickArm, s => tickArmStep s
  | .enqCheck len, s => enqCheckStep len s
  | .txStore offset b, s => txStoreStep offset b s
  | .enqTag, s => .go { s with txRequest := .occupied }
  | .rxStatus, s => .ended (s.respond .ok (s.slotStatus s.bufferOut).code)
  | .rxLen, s => readCompleteStep 0 s
  | .rxType, s => readCompleteStep 1 s
  | .rxData index, s => rxDataStep index s
  | .rxClearTag, s => rxClearTagStep s
  | .rxClearFlip, s => .go { s with bufferOut := s.bufferOut ^^^ 1 }

/-- Whether the Handler is entered at this place of the list: it is a preemption point, the choice has reached zero and an invocation
may start (rules R49, R134). -/
abbrev cutsHere (c : Option Nat) (m : Micro) (s : State) : Prop := m = .point ∧ c = some 0 ∧ s.admitsHandler = true

/-- The choice past this place of the list: it counts down over the preemption points that admit an invocation. -/
def nextChoice (c : Option Nat) (m : Micro) (s : State) : Option Nat :=
  if m = .point ∧ s.admitsHandler = true then c.map (· - 1) else c

/-- Run micro-steps up to the operation's end or to the preemption point where the Handler is entered; Mainline then stays at that
point (rules R49, R134, R137). -/
def runMicros : Option Nat → List Micro → State → Host.Outcome State Fault Refusal
  | _, [], s => .next s
  | c, m :: ms, s =>
    if cutsHere c m s then .next { s with mainline := m :: ms }.enterHandler
    else
      match microStep m s with
      | .go s' => runMicros (nextChoice c m s) ms s'
      | .ended s' => .next s'
      | .bad f => .fault f

/-- Run one stretch of Mainline: take the choice, then the micro-steps. -/
def runMainline (ms : List Micro) (s : State) : Host.Outcome State Fault Refusal :=
  runMicros s.choice ms s.opStart

/-- Begin a host operation; before INIT it is refused (rule R121). -/
def hostOperation (ms : List Micro) (s : State) : Host.Outcome State Fault Refusal :=
  if s.initDone then runMainline ms s else .refused .beforeInit

/-- An operation that ends at once with ILLEGAL and no state change (rule R71). -/
def illegalProgram : List Micro := [.point, .raise .illegal]

/-- A command word with a reserved `op`: ILLEGAL, before and after INIT (rules R71 a, R136). -/
def illegalCommand (s : State) : Host.Outcome State Fault Refusal := runMainline illegalProgram s

/-- No command is presented: only the preemption point between two operations is passed (rule R49). -/
def runIdle (s : State) : Host.Outcome State Fault Refusal :=
  match s.choice, s.admitsHandler with
  | some 0, true => .next s.opStart.enterHandler
  | _, _ => .next s.opStart

end Sys2Proof.Machine
end

