-- ==== Sys2Proof/Machine/Enqueue.lean ====
section
/-! DEFINITION. ENQUEUE (rules R108 to R112). -/

namespace Sys2Proof.Machine

open Sys2Proof

/-- The payload copy: one byte write and one preemption point per byte, ascending (rule R110). -/
def copyProgram : Nat → List Byte → List Micro
  | _, [] => []
  | offset, b :: bs => .txStore offset b :: .point :: copyProgram (offset + 1) bs

/-- The steps of ENQUEUE with their preemption points (rule R110). -/
def enqueueProgram (typ len : Byte) (payload : List Byte) : List Micro :=
  [.point, .enqCheck len] ++ copyProgram 5 (payload.take len.toNat) ++
  [.txStore 2 len, .point, .txStore 3 typ, .point, .txStore 4 (chk len typ), .point, .enqTag, .raise .ok]

/-- ENQUEUE (rule R110); ILLEGAL in a receive-only build (rule R71 b). -/
def execEnqueue (typ len : Byte) (payload : List Byte) (s : State) : Host.Outcome State Fault Refusal :=
  hostOperation (if s.cfg.rxOnly then illegalProgram else enqueueProgram typ len payload) s

end Sys2Proof.Machine
end

