-- ==== Sys2Proof/Machine/Handler.lean ====
section
/-! DEFINITION. The five handler transitions: the receive framer and the transmit sequencer (rules R85 to R98). -/

namespace Sys2Proof.Machine

open Sys2Proof

/-- H_NONE (rule R86): the loop ends and the Handler returns (rule R85). -/
def execHNone (s : State) : Host.Outcome State Fault Refusal := .next s.leaveHandler

/-- The length byte is seeded and counted, whether or not the slot is Free (rule R88). -/
def State.seedReception (s : State) (b : Byte) : State :=
  { s with chkAcc := b, byteCount := 1, totalBytes := rxTotal s.cfg b }

/-- The body of H_RXIDLE (rule R88). -/
def State.receiveLength (s : State) : State :=
  let seeded := s.rdByte.seedReception s.rxByte
  if seeded.slotStatus seeded.bufferIn = .free then
    { seeded.memWrite (slotSpace seeded.bufferIn) 0 s.rxByte with protocolState := .receiveActive }
  else seeded.resetPath

/-- H_RXIDLE (rule R88). -/
def execHRxIdle (s : State) : Host.Outcome State Fault Refusal := .next s.receiveLength

/-- XOR the byte into the accumulator and store it where the slot has room (rules R41 a, R89). -/
def State.acceptByte (s : State) (b : Byte) : State :=
  let summed := { s with chkAcc := s.chkAcc ^^^ b }
  if summed.byteCount < 3 + summed.cfg.capacity then summed.memWrite (slotSpace summed.bufferIn) summed.byteCount b
  else summed

/-- The completion of a reception (rules R89, R90). -/
def State.completeReception (s : State) : State :=
  { s.setSlotStatus s.bufferIn .complete with bufferIn := s.bufferIn ^^^ 1 }.resetPath

/-- The body of H_RXACTIVE (rule R89). -/
def State.receiveByte (s : State) : State :=
  let read := s.rdByte
  if read.byteCount < read.totalBytes then
    let stored := read.acceptByte s.rxByte
    if stored.byteCount = 2 ∧ stored.chkAcc ≠ 0xFF then stored.resetPath
    else { stored with byteCount := stored.byteCount + 1 }
  else read.completeReception

/-- H_RXACTIVE (rule R89). -/
def execHRxActive (s : State) : Host.Outcome State Fault Refusal := .next s.receiveByte

/-- The completion of a transmission (rule R91). -/
def State.completeTransmission (s : State) : State :=
  (({ s with txRequest := .free }.modeRx).wrByte s.cfg.dummyByte).resetPath

/-- H_TX (rule R91). -/
def execHTx (s : State) : Host.Outcome State Fault Refusal :=
  if s.byteCount < s.totalBytes then
    match s.txSeq s.byteCount with
    | some b => .next { s.wrByte b with byteCount := s.byteCount + 1 }
    | none => .fault (.outsideBuffer .txbuf s.byteCount)
  else .next s.completeTransmission

/-- H_RSVD (rule R92). -/
def execHRsvd (s : State) : Host.Outcome State Fault Refusal := .next s.resetPath

end Sys2Proof.Machine
end

