-- ==== Sys2Proof/Machine/RxApi.lean ====
section
/-! DEFINITION. The consumption operations (rules R113 to R119). -/

namespace Sys2Proof.Machine

open Sys2Proof

/-- RX_STATUS (rule R114). -/
def execRxStatus (s : State) : Host.Outcome State Fault Refusal := hostOperation [.point, .rxStatus] s

/-- RX_LEN (rule R115). -/
def execRxLen (s : State) : Host.Outcome State Fault Refusal := hostOperation [.point, .rxLen] s

/-- RX_TYPE (rule R116). -/
def execRxType (s : State) : Host.Outcome State Fault Refusal := hostOperation [.point, .rxType] s

/-- RX_DATA (rule R117). -/
def execRxData (index : Byte) (s : State) : Host.Outcome State Fault Refusal := hostOperation [.point, .rxData index] s

/-- The steps of RX_CLEAR with their preemption points (rule R118). -/
def rxClearProgram : List Micro := [.point, .rxClearTag, .point, .rxClearFlip, .raise .ok]

/-- RX_CLEAR (rule R118). -/
def execRxClear (s : State) : Host.Outcome State Fault Refusal := hostOperation rxClearProgram s

end Sys2Proof.Machine
end

