-- ==== Sys2Proof/Machine/System.lean ====
section
/-! DEFINITION. INIT and POLL (rules R120 to R122). -/

namespace Sys2Proof.Machine

open Sys2Proof

/-- One `WrCfg` per element of INIT_SEQ, in order (rule R120). -/
def State.writeConfig (s : State) (ws : List Nat) : State := ws.foldl State.wrCfg s

/-- Every register and tag takes its reset value (rules R34, R120); the three registers without one take free values. -/
def State.resetRegisters (s : State) : State :=
  { s with
    protocolState := .receiveIdle
    byteCount := Config.freeCounter s.draws % 2 ^ s.cfg.countW
    totalBytes := Config.freeCounter (s.draws + 1) % 2 ^ s.cfg.countW
    bufferIn := 0
    bufferOut := 0
    txRequest := .free
    chkAcc := Config.freeChk (s.draws + 2)
    freeCount := s.cfg.channelFreeMax
    status0 := .free
    status1 := .free
    draws := s.draws + 3 }

/-- The whole of INIT but its response (rule R120). -/
def State.bringUp (s : State) : State :=
  let configured := (s.intMask.writeConfig s.cfg.initSeq).resetRegisters
  let synced := (configured.memWrite .txbuf 0 s.cfg.sync0).memWrite .txbuf 1 s.cfg.sync1
  { synced.intUnmask with initDone := true }

/-- INIT (rule R120); a second one is refused (rule R121). -/
def execInit (s : State) : Host.Outcome State Fault Refusal :=
  if s.initDone then .refused .secondInit else .next (s.bringUp.respond .ok 0)

/-- POLL (rule R122): in a polling build Mainline enters the Handler and answers OK once it has returned; otherwise ILLEGAL. -/
def execPoll (s : State) : Host.Outcome State Fault Refusal :=
  if s.cfg.polling then
    if s.initDone then .next { s with mainline := [.raise .ok] }.enterHandler else .refused .beforeInit
  else hostOperation illegalProgram s

end Sys2Proof.Machine
end

