-- ==== Sys2Proof/Machine/Tick.lean ====
section
/-! DEFINITION. TICK, the collision-avoidance scheduler (rules R99 to R107). -/

namespace Sys2Proof.Machine

open Sys2Proof

/-- The steps of TICK with their preemption points (rules R100, R106). -/
def tickProgram (cfg : Config) : List Micro :=
  [.point, .tickIdle, .point] ++
  (if cfg.caEnabled then [.tickSense, .point, .tickCount, .point] else []) ++
  [.tickArm, .raise .ok]

/-- TICK (rule R100); ILLEGAL in a receive-only build (rule R71 b). -/
def execTick (s : State) : Host.Outcome State Fault Refusal :=
  hostOperation (if s.cfg.rxOnly then illegalProgram else tickProgram s.cfg) s

end Sys2Proof.Machine
end

