-- ==== Sys2Proof/Machine/Dispatch.lean ====
section
/-! DEFINITION. One arm per operation of the table, each one call of its meaning. -/

namespace Sys2Proof.Machine

open Sys2Proof

def exec (i : Instr) (s : State) : Host.Outcome State Fault Refusal :=
  match i with
  | .init => Sys2Proof.Machine.execInit s
  | .tick => Sys2Proof.Machine.execTick s
  | .enqueue typ len payload => Sys2Proof.Machine.execEnqueue typ len payload s
  | .rxStatus => Sys2Proof.Machine.execRxStatus s
  | .rxLen => Sys2Proof.Machine.execRxLen s
  | .rxType => Sys2Proof.Machine.execRxType s
  | .rxData index => Sys2Proof.Machine.execRxData index s
  | .rxClear => Sys2Proof.Machine.execRxClear s
  | .poll => Sys2Proof.Machine.execPoll s
  | .hNone => Sys2Proof.Machine.execHNone s
  | .hRxIdle => Sys2Proof.Machine.execHRxIdle s
  | .hRxActive => Sys2Proof.Machine.execHRxActive s
  | .hTx => Sys2Proof.Machine.execHTx s
  | .hRsvd => Sys2Proof.Machine.execHRsvd s
  | .rdStatus => Sys2Proof.Machine.execRdStatus s
  | .rdByte => Sys2Proof.Machine.execRdByte s
  | .wrByte b => Sys2Proof.Machine.execWrByte b s
  | .modeTx => Sys2Proof.Machine.execModeTx s
  | .modeRx => Sys2Proof.Machine.execModeRx s
  | .queueClear => Sys2Proof.Machine.execQueueClear s
  | .queueArm => Sys2Proof.Machine.execQueueArm s
  | .wrCfg w => Sys2Proof.Machine.execWrCfg w s

end Sys2Proof.Machine
end

