-- ==== Sys2Proof/WellFormed.lean ====
section
/-! DEFINITION. Which terms of Instr are operations: the one check is rule R63's, that ENQUEUE carries exactly `length` payload bytes. -/

namespace Sys2Proof

/-- Rule R63: the payload vector has exactly `length` bytes. Every other operation's fields take all their values. -/
def Instr.wellFormed : Instr → Bool
  | .enqueue _ len payload => payload.length == len.toNat
  | .init | .tick | .rxStatus | .rxLen | .rxType | .rxData _ | .rxClear | .poll => true
  | .hNone | .hRxIdle | .hRxActive | .hTx | .hRsvd => true
  | .rdStatus | .rdByte | .wrByte _ | .modeTx | .modeRx | .queueClear | .queueArm | .wrCfg _ => true

end Sys2Proof
end

