-- ==== Sys2Proof/Decode.lean ====
section
/-! DEFINITION. Reading an operation from its format and writing it back: the host command word (rules R60 to R63, R71), the handler
event key (rules R66, R67) and the symbolic bus word (rule R72). -/

namespace Sys2Proof

/-- Why a host command is not an operation. -/
inductive DecodeError where
  /-- A reserved `op` (rule R71 a). -/
  | reservedOp (op : BitVec 4)
  /-- ENQUEUE without exactly `length` payload bytes (rule R63). -/
  | payloadLength (want got : Nat)
deriving DecidableEq, Repr

/-- `HCW[19:16]` (rule R60). -/
def HostCommand.op (c : HostCommand) : BitVec 4 := c.word.extractLsb' 16 4

/-- `HCW[15:8]` (rule R60). -/
def HostCommand.a (c : HostCommand) : Byte := c.word.extractLsb' 8 8

/-- `HCW[7:0]` (rule R60). -/
def HostCommand.b (c : HostCommand) : Byte := c.word.extractLsb' 0 8

/-- The operation map of rule R61. Fields an operation does not use are ignored (rule R62). -/
def decodeHcw (c : HostCommand) : Except DecodeError Instr :=
  match c.op with
  | 0x1#4 => .ok .init
  | 0x2#4 => .ok .tick
  | 0x3#4 =>
    if c.payload.length = c.b.toNat then .ok (.enqueue c.a c.b c.payload)
    else .error (.payloadLength c.b.toNat c.payload.length)
  | 0x4#4 => .ok .rxStatus
  | 0x5#4 => .ok .rxLen
  | 0x6#4 => .ok .rxType
  | 0x7#4 => .ok (.rxData c.a)
  | 0x8#4 => .ok .rxClear
  | 0x9#4 => .ok .poll
  | op => .error (.reservedOp op)

/-- The transition map of rule R67; bit 2 is `ready`, bits 1 and 0 are `protocol_state`. -/
def decodeHev (key : BitVec 3) : Instr :=
  match key with
  | 0b100#3 => .hRxIdle
  | 0b101#3 => .hRxActive
  | 0b110#3 => .hTx
  | 0b111#3 => .hRsvd
  | _ => .hNone

/-- The transaction kinds of rule R44, by their symbolic command words (rule R72). -/
def decodeBus : BusWord → Instr
  | .cmdStatus => .rdStatus
  | .cmdRxByte => .rdByte
  | .cmdTxByte b => .wrByte b
  | .cmdModeTx => .modeTx
  | .cmdModeRx => .modeRx
  | .cmdQueueClear => .queueClear
  | .cmdQueueArm => .queueArm
  | .cfgWord w => .wrCfg w

/-- The decoder over all formats. -/
def decode : Encoded → Except DecodeError Instr
  | .hcw c => decodeHcw c
  | .hev key => .ok (decodeHev key)
  | .bus w => .ok (decodeBus w)

/-- A host command word from its three fields (rule R60). -/
def hcwWord (op : BitVec 4) (a b : Byte) : BitVec 20 := op ++ a ++ b

/-- The encoder: the same tables read the other way, an ignored field written as zero. -/
def encode : Instr → Encoded
  | .init => .hcw ⟨hcwWord 0x1 0 0, []⟩
  | .tick => .hcw ⟨hcwWord 0x2 0 0, []⟩
  | .enqueue typ len payload => .hcw ⟨hcwWord 0x3 typ len, payload⟩
  | .rxStatus => .hcw ⟨hcwWord 0x4 0 0, []⟩
  | .rxLen => .hcw ⟨hcwWord 0x5 0 0, []⟩
  | .rxType => .hcw ⟨hcwWord 0x6 0 0, []⟩
  | .rxData index => .hcw ⟨hcwWord 0x7 index 0, []⟩
  | .rxClear => .hcw ⟨hcwWord 0x8 0 0, []⟩
  | .poll => .hcw ⟨hcwWord 0x9 0 0, []⟩
  | .hNone => .hev 0b000
  | .hRxIdle => .hev 0b100
  | .hRxActive => .hev 0b101
  | .hTx => .hev 0b110
  | .hRsvd => .hev 0b111
  | .rdStatus => .bus .cmdStatus
  | .rdByte => .bus .cmdRxByte
  | .wrByte b => .bus (.cmdTxByte b)
  | .modeTx => .bus .cmdModeTx
  | .modeRx => .bus .cmdModeRx
  | .queueClear => .bus .cmdQueueClear
  | .queueArm => .bus .cmdQueueArm
  | .wrCfg w => .bus (.cfgWord w)

/-- The host command that a number stands for: the 20-bit word in the lowest three bytes and the payload bytes above it, as many
as an ENQUEUE's length field says (assumption log 11). A number with a bit set in the four bits above the word is no command. -/
def tableCommand (w : Nat) : Option HostCommand :=
  let word := BitVec.ofNat 20 w
  let payload := (List.range (word.extractLsb' 0 8).toNat).map (fun i => BitVec.ofNat 8 (w >>> (24 + 8 * i)))
  if w % 2 ^ 24 < 2 ^ 20 then
    some ⟨word, if word.extractLsb' 16 4 = 0x3#4 then payload else []⟩
  else none

/-- What the decoder reads from a word numbered as the opcode table numbers it: a number of one byte is a handler event key, a longer
one a host command. A bus row has no number (rule R72). -/
def decodeTableWord (nbits w : Nat) : Option Instr :=
  if nbits = 0 then none
  else if nbits ≤ 8 then
    if w < 8 then some (decodeHev (BitVec.ofNat 3 w)) else none
  else
    match tableCommand w with
    | none => none
    | some c =>
      match decodeHcw c with
      | .ok i => some i
      | .error _ => none

end Sys2Proof
end

