-- ==== Sys2Proof/Machine/Fetch.lean ====
section
/-! DEFINITION. What the next step runs: the handler transition its status word selects (rules R66, R85, R87), the host command presented
next (rules R60, R71); and how a word of the opcode table is placed so that the next step runs it (assumption logs 9 and 11). -/

namespace Sys2Proof.Machine

open Sys2Proof

/-- The transition one iteration of the Handler's loop takes: selected by the Chip's next status word and `protocol_state` (rules R66,
R67, R85, R87). -/
def State.handlerInstr (s : State) : Instr :=
  decodeHev (hevKey (readyIn s.cfg s.statusWord) s.protocolState)

/-- What Mainline does with the command the host presents. -/
inductive Fetched where
  /-- It is this operation. -/
  | operation (i : Instr)
  /-- It has a reserved `op` (rule R71 a). -/
  | illegal
  /-- It is no command of the format (rule R63). -/
  | refusal (r : Refusal)
deriving Repr

/-- Read a host command (rules R60 to R63, R71). -/
def fetchCommand (c : HostCommand) : Fetched :=
  match decodeHcw c with
  | .ok i => .operation i
  | .error (.reservedOp _) => .illegal
  | .error (.payloadLength _ _) => .refusal .payloadMismatch

/-- The machine brought to where it can take a command: INIT performed, unless the command is INIT or no operation (rule R148). -/
def State.readyFor (s : State) (c : HostCommand) : State :=
  match decodeHcw c with
  | .ok .init => s
  | .ok _ => if s.initDone then s else s.bringUp
  | .error _ => s

/-- Place a host command so that the next step takes it: no invocation and no operation in progress, no preemption in it, and for
TICK the Chip's answer of the form `TICK-` (rule R74). -/
def State.placeCommand (s : State) (c : HostCommand) : State :=
  let r := s.readyFor c
  { r with
    inHandler := false
    mainline := []
    hostQueue := c :: r.hostQueue
    schedule := none :: r.schedule
    statusAnswers := if c.op = 0x2#4 then 0 :: r.statusAnswers else r.statusAnswers }

/-- Place a handler event key so that the next step takes its transition: an invocation in progress, `protocol_state` as the key
says, and a status word with or without the ready bit (rule R66). -/
def State.placeEvent (s : State) (key : BitVec 3) : State :=
  { s with
    inHandler := true
    protocolState := ProtocolState.ofCode (key.extractLsb' 0 2)
    statusAnswers := (if key.extractLsb' 2 1 = 1 then s.cfg.readyMask else 0) :: s.statusAnswers }

/-- Place a word numbered as the opcode table numbers it. -/
def State.placeTableWord (s : State) (nbits w : Nat) : State :=
  if nbits = 0 then s
  else if nbits ≤ 8 then
    if w < 8 then s.placeEvent (BitVec.ofNat 3 w) else s
  else
    match tableCommand w with
    | none => s
    | some c => s.placeCommand c

end Sys2Proof.Machine
end

