-- ==== Sys2Proof/Machine/Run.lean ====
section
/-! DEFINITION. What the two contexts do in one step: the Handler one iteration of its loop (rules R48, R85), Mainline one stretch: the
rest of a suspended operation, the command the host presents next, or nothing (rules R10, R49, R137). -/

namespace Sys2Proof.Machine

open Sys2Proof

/-- Take the command the host presents (rules R60 to R63, R71). -/
def runCommand (c : HostCommand) (s : State) : Host.Outcome State Fault Refusal :=
  match fetchCommand c with
  | .operation i => exec i s
  | .illegal => illegalCommand s
  | .refusal r => .refused r

/-- One iteration of the Handler's loop: a status read and the transition it selects (rule R85). -/
def runHandler (s : State) : Host.Outcome State Fault Refusal := exec s.handlerInstr s.rdStatus

/-- One stretch of Mainline (rules R49, R137). -/
def runHost (s : State) : Host.Outcome State Fault Refusal :=
  match s.mainline, s.hostQueue with
  | m :: ms, _ => runMainline (m :: ms) s
  | [], c :: cs => runCommand c { s with hostQueue := cs }
  | [], [] => runIdle s

end Sys2Proof.Machine
end

