-- ==== Sys2Proof/Laws/Decode.lean ====
section
/-! SUPPORT. The fields of a host command word (rule R60). -/

namespace Sys2Proof

/-- A field of a host command word, bit by bit. -/
theorem hcwWord_getLsbD (op : BitVec 4) (a b : Byte) (i : Nat) :
    (hcwWord op a b).getLsbD i = if i < 8 then b.getLsbD i else if i < 16 then a.getLsbD (i - 8) else op.getLsbD (i - 16) := by
  show ((op ++ a) ++ b : BitVec (4 + 8 + 8)).getLsbD i = _
  rw [BitVec.getLsbD_append, BitVec.getLsbD_append]
  split
  · rfl
  · by_cases h : i < 16
    · rw [if_pos h, if_pos (by omega)]
    · rw [if_neg h, if_neg (by omega), Nat.sub_sub]

theorem HostCommand.op_hcwWord (op : BitVec 4) (a b : Byte) (p : List Byte) : HostCommand.op ⟨hcwWord op a b, p⟩ = op := by
  refine BitVec.eq_of_getLsbD_eq fun i hi => ?_
  have h1 : ¬ 16 + i < 8 := by omega
  have h2 : ¬ 16 + i < 16 := by omega
  simp only [HostCommand.op, BitVec.getLsbD_extractLsb', hi, decide_true, Bool.true_and, hcwWord_getLsbD, h1, h2, if_false,
    Nat.add_sub_cancel_left]

theorem HostCommand.a_hcwWord (op : BitVec 4) (a b : Byte) (p : List Byte) : HostCommand.a ⟨hcwWord op a b, p⟩ = a := by
  refine BitVec.eq_of_getLsbD_eq fun i hi => ?_
  have h1 : ¬ 8 + i < 8 := by omega
  have h2 : 8 + i < 16 := by omega
  simp only [HostCommand.a, BitVec.getLsbD_extractLsb', hi, decide_true, Bool.true_and, hcwWord_getLsbD, h1, h2, if_false, if_true,
    Nat.add_sub_cancel_left]

theorem HostCommand.b_hcwWord (op : BitVec 4) (a b : Byte) (p : List Byte) : HostCommand.b ⟨hcwWord op a b, p⟩ = b := by
  refine BitVec.eq_of_getLsbD_eq fun i hi => ?_
  simp only [HostCommand.b, BitVec.getLsbD_extractLsb', hi, decide_true, Bool.true_and, hcwWord_getLsbD, Nat.zero_add, if_true]

end Sys2Proof
end

