-- ==== Sys2Proof/Laws/PerInstr.lean ====
section
/-! SUPPORT. The encoding round trip, one lemma per constructor of Instr. -/

namespace Sys2Proof.Laws.RoundTrip

open Sys2Proof

/-- A well-formed operation, encoded and decoded, is itself. -/
def Statement (i : Instr) : Prop := i.wellFormed = true → decode (encode i) = .ok i

theorem init : Statement .init := fun _ => rfl

theorem tick : Statement .tick := fun _ => rfl

theorem enqueue (typ len : Byte) (payload : List Byte) : Statement (.enqueue typ len payload) := by
  intro h
  simp only [Instr.wellFormed, beq_iff_eq] at h
  show decodeHcw _ = _
  rw [decodeHcw, HostCommand.op_hcwWord, HostCommand.a_hcwWord, HostCommand.b_hcwWord]
  exact if_pos h

theorem rxStatus : Statement .rxStatus := fun _ => rfl

theorem rxLen : Statement .rxLen := fun _ => rfl

theorem rxType : Statement .rxType := fun _ => rfl

theorem rxData (index : Byte) : Statement (.rxData index) := by
  intro _
  show decodeHcw _ = _
  rw [decodeHcw, HostCommand.op_hcwWord, HostCommand.a_hcwWord]
  rfl

theorem rxClear : Statement .rxClear := fun _ => rfl

theorem poll : Statement .poll := fun _ => rfl

theorem hNone : Statement .hNone := fun _ => rfl

theorem hRxIdle : Statement .hRxIdle := fun _ => rfl

theorem hRxActive : Statement .hRxActive := fun _ => rfl

theorem hTx : Statement .hTx := fun _ => rfl

theorem hRsvd : Statement .hRsvd := fun _ => rfl

theorem rdStatus : Statement .rdStatus := fun _ => rfl

theorem rdByte : Statement .rdByte := fun _ => rfl

theorem wrByte (b : Byte) : Statement (.wrByte b) := fun _ => rfl

theorem modeTx : Statement .modeTx := fun _ => rfl

theorem modeRx : Statement .modeRx := fun _ => rfl

theorem queueClear : Statement .queueClear := fun _ => rfl

theorem queueArm : Statement .queueArm := fun _ => rfl

theorem wrCfg (w : Nat) : Statement (.wrCfg w) := fun _ => rfl

end Sys2Proof.Laws.RoundTrip
end

