-- ==== Sys2Proof/Safety.lean ====
section
/-! DEFINITION. The terms claims are stated in: a stretch of Mainline that no invocation cuts, the relation of the two slot indices to
the two tags (rule R32 a, b), quiescence (rule R162), and the invariant of the machine (rules R31, R32). -/

namespace Sys2Proof.Machine

open Sys2Proof

/-- The coming stretch of Mainline runs to its end: a polling build admits no invocation (rule R122), or the schedule starts none. -/
def State.RunsThrough (s : State) : Prop := s.cfg.polling = true ∨ s.choice = none

/-- Mainline at rest: no host operation and no invocation in progress (rule R162). -/
abbrev State.AtRest (s : State) : Prop := s.inHandler = false ∧ s.mainline = []

/-- Quiescent (rule R162). -/
abbrev State.Quiescent (s : State) : Prop := s.AtRest ∧ s.protocolState = .receiveIdle

/-- Drained (rule R162). -/
abbrev State.Drained (s : State) : Prop := s.Quiescent ∧ s.txRequest = .free

/-- The XOR of a slot's three header bytes (rule R79). -/
def State.headerSum (s : State) (k : BitVec 1) : Byte := s.slotByte k 0 ^^^ s.slotByte k 1 ^^^ s.slotByte k 2

/-- Rule R32 (a), (b): with none Complete the indices agree; with one, it is the slot at `out` and the indices differ; with two they
agree. -/
def slotsAgree (inIx outIx : BitVec 1) (t0 t1 : Tag) : Bool :=
  match t0, t1 with
  | .free, .free => inIx == outIx
  | .complete, .free => outIx == 0 && inIx == 1
  | .free, .complete => outIx == 1 && inIx == 0
  | .complete, .complete => inIx == outIx
  | _, _ => false

/-- Between the two writes of RX_CLEAR the flip of `buffer_out` is still due (rule R118). -/
def flipDue : List Micro → Bool
  | [] => false
  | .rxClearTag :: _ => false
  | .rxClearFlip :: _ => true
  | _ :: ms => flipDue ms

/-- `buffer_out` as it will stand once the operation in progress has made its due flip. -/
def State.outIndex (s : State) : BitVec 1 := if flipDue s.mainline then s.bufferOut ^^^ 1 else s.bufferOut

/-- What is left of a host operation is fit to run: `checked` says ENQUEUE's tests have passed, `len` is the length byte TXBUF will
hold. Its stores fall on the header and payload of TXBUF, it queues only a length within CAPACITY (rules R41 b, R110), and no
operation ends between the two writes of RX_CLEAR. -/
def positionOk (cap : Nat) : Bool → Byte → List Micro → Prop
  | _, _, [] => True
  | c, l, .point :: ms => positionOk cap c l ms
  | _, _, .raise _ :: ms => ms = []
  | c, l, .tickIdle :: ms => flipDue ms = false ∧ positionOk cap c l ms
  | c, l, .tickSense :: ms => flipDue ms = false ∧ positionOk cap c l ms
  | c, l, .tickCount :: ms => flipDue ms = false ∧ positionOk cap c l ms
  | c, l, .tickArm :: ms => c = false ∧ positionOk cap c l ms
  | _, l, .enqCheck n :: ms => flipDue ms = false ∧ (n.toNat ≤ cap → positionOk cap true l ms)
  | c, l, .txStore off b :: ms =>
    c = true ∧ 2 ≤ off ∧ off < 5 + cap ∧ positionOk cap c (if off = 2 then b else l) ms
  | c, l, .enqTag :: ms => c = true ∧ l.toNat ≤ cap ∧ positionOk cap false l ms
  | _, _, .rxStatus :: ms => ms = []
  | _, _, .rxLen :: ms => ms = []
  | _, _, .rxType :: ms => ms = []
  | _, _, .rxData _ :: ms => ms = []
  | c, l, .rxClearTag :: ms => flipDue ms = true ∧ positionOk cap c l ms
  | c, l, .rxClearFlip :: ms => flipDue ms = false ∧ positionOk cap c l ms

/-- The registers hold legal codes and fit their widths: rule R32 (f); R23; R16, R17 and R83. -/
structure RegsInv (s : State) : Prop where
  protocolLegal : s.protocolState ≠ .reserved
  txTagLegal : s.txRequest = .free ∨ s.txRequest = .occupied
  slotTagLegal : ∀ k, s.slotStatus k = .free ∨ s.slotStatus k = .complete
  freeCountBound : s.freeCount ≤ s.cfg.channelFreeMax
  countersFit : s.byteCount < 2 ^ s.cfg.countW ∧ s.totalBytes < 2 ^ s.cfg.countW

/-- Each buffer is in its canonical form and holds no byte outside itself (rules R35, R41). -/
structure BuffersInv (s : State) : Prop where
  canonical : ∀ sp, Memory.wf (s.mem sp)
  inside : ∀ sp, ∀ c ∈ s.mem sp, c.1 < s.size sp

/-- Transmission: rule R32 (d), (e); the total of the packet being sent; a queued length within CAPACITY (rules R41, R104). -/
structure SendInv (s : State) : Prop where
  queued : s.protocolState = .transmitting → s.txRequest = .occupied
  count : s.protocolState = .transmitting → s.byteCount ≤ s.totalBytes
  total : s.protocolState = .transmitting → s.totalBytes = txTotal s.cfg (s.byteAt .txbuf 2)
  length : s.txRequest = .occupied → (s.byteAt .txbuf 2).toNat ≤ s.cfg.capacity

/-- Reception: rule R32 (e), (g); the total; the accumulator and the header so far (rules R78, R88, R89). -/
structure RecvInv (s : State) : Prop where
  count : s.protocolState = .receiveActive → 1 ≤ s.byteCount ∧ s.byteCount ≤ s.totalBytes
  total : s.protocolState = .receiveActive → s.totalBytes = rxTotal s.cfg (s.slotByte s.bufferIn 0)
  slotFree : s.protocolState = .receiveActive → s.slotStatus s.bufferIn = .free
  first : s.protocolState = .receiveActive → s.byteCount = 1 → s.chkAcc = s.slotByte s.bufferIn 0
  second : s.protocolState = .receiveActive → s.byteCount = 2 →
    s.chkAcc = s.slotByte s.bufferIn 0 ^^^ s.slotByte s.bufferIn 1
  header : s.protocolState = .receiveActive → 3 ≤ s.byteCount → s.headerSum s.bufferIn = 0xFF

/-- The double buffer: rule R32 (a), (b), and an accepted header in every Complete slot (rule R90). -/
structure SlotsInv (s : State) : Prop where
  related : slotsAgree s.bufferIn s.outIndex s.status0 s.status1 = true
  completeHeader : ∀ k, s.slotStatus k = .complete → s.headerSum k = 0xFF

/-- The run: after INIT the source is masked exactly while the Handler runs (rules R48, R85) and TXBUF holds the sync pattern (rule
R25); before INIT nothing runs (rules R121, R147); what is left of the operation in progress is fit to run, and past ENQUEUE's tests
nothing is queued (rule R110). -/
structure RunInv (s : State) : Prop where
  maskHandler : s.initDone = true → s.intMasked = s.inHandler
  beforeInit : s.initDone = false → s.intMasked = true ∧ s.inHandler = false ∧ s.mainline = []
  syncPattern : s.initDone = true → s.byteAt .txbuf 0 = s.cfg.sync0 ∧ s.byteAt .txbuf 1 = s.cfg.sync1
  position : ∃ c, positionOk s.cfg.capacity c (s.byteAt .txbuf 2) s.mainline ∧ (c = true → s.txRequest = .free)

/-- The invariant of the machine, at every state between two steps. -/
structure Inv (s : State) : Prop where
  cfg : s.cfg.Valid
  regs : RegsInv s
  buffers : BuffersInv s
  send : SendInv s
  recv : RecvInv s
  slots : SlotsInv s
  run : RunInv s

/-- `n` steps, ending at the first fault or refusal. -/
def steps : Nat → State → Host.Outcome State Fault Refusal
  | 0, s => .next s
  | n + 1, s =>
    match step s with
    | .next t => steps n t
    | .fault f => .fault f
    | .refused r => .refused r

/-- `n` TICKs one after another, ending at the first fault or refusal (rule R105). -/
def ticks : Nat → State → Host.Outcome State Fault Refusal
  | 0, s => .next s
  | n + 1, s =>
    match exec .tick s with
    | .next t => ticks n t
    | .fault f => .fault f
    | .refused r => .refused r

/-- The bytes PTSM has written to the Chip, in order: the data of the `WrByte` events of a trace (rules R45, R56). -/
def sentBytes (tr : List Event) : List Byte :=
  tr.filterMap (fun e => match e with
    | .wrByte b => some b
    | _ => none)

/-- The states a run reaches from hardware reset under a configuration, whatever the host, the Chip and the schedule do (rules R29,
R54, R134). -/
inductive Reachable (cfg : Config) : State → Prop where
  | reset (commands : List HostCommand) (statuses : List Nat) (bytes : List Byte) (choices : List (Option Nat)) :
    Reachable cfg { State.resetWith cfg with
      hostQueue := commands, statusAnswers := statuses, byteAnswers := bytes, schedule := choices }
  | step {s t : State} : Reachable cfg s → Machine.step s = .next t → Reachable cfg t

end Sys2Proof.Machine
end

