-- ==== Sys2Proof/Certificates/Slice0/Obligations.lean ====
section
/-! DEFINITION. The statements for the provers. In a statement about a host operation, `s.opStart` is the state once the schedule's choice
for the operation has been taken, and `State.RunsThrough` says that no Handler invocation cuts it (a cut operation has statements of
its own: HandlerEnteredAtAPoint, StepResumesMainline). -/

open Sys2Proof Sys2Proof.Machine

/-! ### Formats and decoding -/

/-- Rule R77: the transmit checksum and its corner cases. -/
def Obligations.TransmitChecksum : Prop :=
  (∀ len typ : Byte, chk len typ = len ^^^ typ ^^^ 0xFF) ∧
  chk 0x00 0x00 = 0xFF ∧ (∀ x : Byte, chk x x = 0xFF) ∧ (∀ x : Byte, chk x (x ^^^ 0xFF) = 0x00) ∧ chk 0x03 0x01 = 0xFD

/-- Words written out from rule R61's table and V-S3 of 95_test_vectors.md, and the keys of rule R67. -/
def Obligations.WordsDecodeAsTheTableSays : Prop :=
  decodeHcw ⟨0x10000, []⟩ = .ok .init ∧ decodeHcw ⟨0x2FFFF, []⟩ = .ok .tick ∧
  decodeHcw ⟨0x30103, [0x10, 0x20, 0x30]⟩ = .ok (.enqueue 0x01 0x03 [0x10, 0x20, 0x30]) ∧
  decodeHcw ⟨0x4ABCD, []⟩ = .ok .rxStatus ∧ decodeHcw ⟨0x7051E, []⟩ = .ok (.rxData 0x05) ∧
  decodeHcw ⟨0x80000, []⟩ = .ok .rxClear ∧ decodeHcw ⟨0x00000, []⟩ = .error (.reservedOp 0x0) ∧
  decodeHcw ⟨0xF1234, []⟩ = .error (.reservedOp 0xF) ∧
  decodeHev 0b011 = .hNone ∧ decodeHev 0b100 = .hRxIdle ∧ decodeHev 0b111 = .hRsvd

/-- Decoding an encoded well-formed operation gives it back: every operand, at every value its field admits. -/
def Obligations.DecodeEncodeAgree : Prop :=
  ∀ i : Instr, i.wellFormed = true → decode (encode i) = .ok i

/-- Rule R62: a field the operation map marks "ignored" may hold any value and has no effect; `type`, `length` and `index` are taken as
they stand. That a payload presented with an operation other than ENQUEUE is ignored as well is the model's reading, DEDUCED: assumption
log 12. -/
def Obligations.IgnoredFieldsHaveNoEffect : Prop :=
  ∀ (a b : Byte) (p : List Byte),
    decodeHcw ⟨hcwWord 0x1 a b, p⟩ = .ok .init ∧ decodeHcw ⟨hcwWord 0x2 a b, p⟩ = .ok .tick ∧
    (p.length = b.toNat → decodeHcw ⟨hcwWord 0x3 a b, p⟩ = .ok (.enqueue a b p)) ∧
    decodeHcw ⟨hcwWord 0x4 a b, p⟩ = .ok .rxStatus ∧ decodeHcw ⟨hcwWord 0x5 a b, p⟩ = .ok .rxLen ∧
    decodeHcw ⟨hcwWord 0x6 a b, p⟩ = .ok .rxType ∧ decodeHcw ⟨hcwWord 0x7 a b, p⟩ = .ok (.rxData a) ∧
    decodeHcw ⟨hcwWord 0x8 a b, p⟩ = .ok .rxClear ∧ decodeHcw ⟨hcwWord 0x9 a b, p⟩ = .ok .poll

/-- Rule R71 (a): exactly the op codes 0x0 and 0xA to 0xF are rejected as reserved, whatever the operand fields hold. -/
def Obligations.ReservedOpsAreRejected : Prop :=
  ∀ (op : BitVec 4) (a b : Byte) (p : List Byte),
    (op = 0 ∨ 0xA ≤ op.toNat) ↔ decodeHcw ⟨hcwWord op a b, p⟩ = .error (.reservedOp op)

/-- Rules R66 and R87: without the ready bit in the status word no transition is taken; with it, `protocol_state` selects. -/
def Obligations.EventKeySelectsTransition : Prop :=
  ∀ s : State, s.handlerInstr =
    if s.statusWord &&& s.cfg.readyMask = 0 then .hNone
    else match s.protocolState with
      | .receiveIdle => .hRxIdle
      | .receiveActive => .hRxActive
      | .transmitting => .hTx
      | .reserved => .hRsvd

/-- Rule R80: the transmit sequence of a packet within CAPACITY. -/
def Obligations.TransmitSequence : Prop :=
  ∀ (s : State) (n : Nat), (s.byteAt .txbuf 2).toNat ≤ s.cfg.capacity →
    n < (s.byteAt .txbuf 2).toNat + s.cfg.txOverhead →
    s.txSeq n = some (if n < 5 + (s.byteAt .txbuf 2).toNat then s.byteAt .txbuf n else s.cfg.trailerByte)

/-- Rule R47: a buffer read returns the latest write to its place, and a write changes no other place. -/
def Obligations.ReadReturnsLatestWrite : Prop :=
  ∀ (s : State) (sp : Space) (a : Nat) (v : Byte) (sp' : Space) (x : Nat),
    (s.memWrite sp a v).byteAt sp' x = if sp' = sp ∧ x = a then v else s.byteAt sp' x

/-! ### Reset, INIT and POLL -/

/-- Rule R147: hardware reset, with the values of rule R34's table. A byte of a buffer is unspecified: it is the free value
`Config.powerOnByte`, of which nothing is known. (Nothing is said of the three registers the table leaves unspecified.) -/
def Obligations.HardwareReset : Prop :=
  ∀ c : Config, let s := State.resetWith c
    s.protocolState = .receiveIdle ∧ s.bufferIn = 0 ∧ s.bufferOut = 0 ∧ s.txRequest = .free ∧
    s.freeCount = c.channelFreeMax ∧ s.slotStatus 0 = .free ∧ s.slotStatus 1 = .free ∧ s.intMasked = true ∧
    s.trace = [] ∧ s.admitsHandler = false ∧ s.AtRest ∧ (∀ sp a, s.byteAt sp a = Config.powerOnByte sp a)

/-- Rule R120: the first INIT. The registers and tags take rule R34's values (the three without one some value of their width), the sync
pattern stands in TXBUF, the source is unmasked, each word of INIT_SEQ is sent in order; the inputs are untouched. Of the other buffer
bytes this statement says nothing: see InitWritesOnlyTheSyncBytes. -/
def Obligations.InitBringsUp : Prop :=
  ∀ s : State, s.initDone = false → ∃ t, exec .init s = .next t ∧
    t = { s with
      protocolState := .receiveIdle, byteCount := t.byteCount, totalBytes := t.totalBytes, bufferIn := 0, bufferOut := 0
      txRequest := .free, chkAcc := t.chkAcc, freeCount := s.cfg.channelFreeMax, intMasked := false
      txbuf := t.txbuf, raw0 := t.raw0, raw1 := t.raw1
      status0 := .free, status1 := .free, initDone := true, draws := t.draws
      trace := s.trace ++ [.intMask] ++ s.cfg.initSeq.map .wrCfg ++ [.intUnmask]
      responses := s.responses ++ [⟨.ok, 0⟩] } ∧
    t.byteCount < 2 ^ s.cfg.countW ∧ t.totalBytes < 2 ^ s.cfg.countW ∧
    t.byteAt .txbuf 0 = s.cfg.sync0 ∧ t.byteAt .txbuf 1 = s.cfg.sync1

/-- Rule R39: INIT writes TXBUF at offsets 0 and 1 and no other buffer byte. That the bytes it does not write keep their (unspecified)
values is the model's reading, DEDUCED: assumption log 4. -/
def Obligations.InitWritesOnlyTheSyncBytes : Prop :=
  ∀ s t : State, exec .init s = .next t → t.raw0 = s.raw0 ∧ t.raw1 = s.raw1 ∧
    ∀ a, 2 ≤ a → t.byteAt .txbuf a = s.byteAt .txbuf a

/-- Rule R121: a second INIT, and any other host operation before the first, is refused; before INIT no invocation can start. -/
def Obligations.InitFirstAndOnce : Prop :=
  (∀ s : State, s.initDone = true → exec .init s = .refused .secondInit) ∧
  (∀ s : State, s.initDone = false → s.admitsHandler = false ∧
    ∀ i : Instr, i = .tick ∨ (∃ t n p, i = .enqueue t n p) ∨ i = .rxStatus ∨ i = .rxLen ∨ i = .rxType ∨ (∃ k, i = .rxData k) ∨
      i = .rxClear ∨ i = .poll → exec i s = .refused .beforeInit)

/-- Rule R122: in a polling build POLL enters the Handler from Mainline; its response is due when the Handler has returned. -/
def Obligations.PollEntersHandler : Prop :=
  ∀ s : State, s.initDone = true → s.cfg.polling = true →
    exec .poll s = .next { s with
      mainline := [.raise .ok], inHandler := true, intMasked := true, trace := s.trace ++ [.intMask] }

/-- Rule R122: a POLL that finds no ready event runs one whole invocation, of one status read, and answers OK; nothing but the mask, the
trace and the response (and the inputs taken) is written. -/
def Obligations.PollWithoutEvent : Prop :=
  ∀ s : State, s.initDone = true → s.cfg.polling = true → s.statusWord &&& s.cfg.readyMask = 0 →
    ∃ t u v, exec .poll s = .next t ∧ step t = .next u ∧ step u = .next v ∧
      v = { s with
        mainline := [], inHandler := false, intMasked := false, statusAnswers := v.statusAnswers, schedule := v.schedule
        draws := v.draws, trace := s.trace ++ [.intMask, .rdStatus s.statusWord, .intUnmask]
        responses := s.responses ++ [⟨.ok, 0⟩] }

/-- Rules R71 (b) and R122: POLL in an interrupt build, and TICK and ENQUEUE in a receive-only build, answer ILLEGAL and write nothing. -/
def Obligations.DisabledOperationsAreIllegal : Prop :=
  ∀ s : State, s.initDone = true → s.RunsThrough →
    (s.cfg.polling = false → exec .poll s = .next (s.opStart.respond .illegal 0)) ∧
    (s.cfg.rxOnly = true → exec .tick s = .next (s.opStart.respond .illegal 0) ∧
      ∀ typ len payload, exec (.enqueue typ len payload) s = .next (s.opStart.respond .illegal 0))

/-! ### TICK -/

/-- Rule R101: outside ReceiveIdle a TICK returns at once: OK, an empty trace, no state written. -/
def Obligations.TickOutsideIdleDoesNothing : Prop :=
  ∀ s : State, s.initDone = true → s.cfg.rxOnly = false → s.RunsThrough → s.protocolState ≠ .receiveIdle →
    exec .tick s = .next (s.opStart.respond .ok 0)

/-- Rule R102: a carrier reading reloads the countdown and returns. -/
def Obligations.TickCarrierReloads : Prop :=
  ∀ s : State, s.initDone = true → s.cfg.rxOnly = false → s.RunsThrough → s.protocolState = .receiveIdle →
    s.cfg.caEnabled = true → s.opStart.statusWord &&& s.cfg.carrierMask ≠ 0 →
    exec .tick s = .next { s.opStart.takeStatus with
      freeCount := s.cfg.channelFreeMax, intMasked := false
      trace := s.trace ++ [.intMask, .rdStatus s.opStart.statusWord, .intUnmask]
      responses := s.responses ++ [⟨.ok, 0⟩] }

/-- Rule R103: on a clear channel a countdown that is not zero goes down by one, and TICK returns. -/
def Obligations.TickCountsDown : Prop :=
  ∀ s : State, s.initDone = true → s.cfg.rxOnly = false → s.RunsThrough → s.protocolState = .receiveIdle →
    s.cfg.caEnabled = true → s.opStart.statusWord &&& s.cfg.carrierMask = 0 → s.freeCount ≠ 0 →
    exec .tick s = .next { s.opStart.takeStatus with
      freeCount := s.freeCount - 1, intMasked := false
      trace := s.trace ++ [.intMask, .rdStatus s.opStart.statusWord, .intUnmask]
      responses := s.responses ++ [⟨.ok, 0⟩] }

/-- Rule R104: with the countdown at zero, a queued packet is armed; without one, nothing more happens. -/
def Obligations.TickArmsQueuedPacket : Prop :=
  ∀ s : State, s.initDone = true → s.cfg.rxOnly = false → s.RunsThrough → s.protocolState = .receiveIdle →
    s.cfg.caEnabled = true → s.opStart.statusWord &&& s.cfg.carrierMask = 0 → s.freeCount = 0 →
    exec .tick s = .next (if s.txRequest = .occupied then
      { s.opStart.takeStatus with
        totalBytes := (s.byteAt .txbuf 2).toNat + (2 + 3 + s.cfg.trailerLen), byteCount := 0
        protocolState := .transmitting, intMasked := false
        trace := s.trace ++ [.intMask, .rdStatus s.opStart.statusWord, .intUnmask, .intMask,
          .wrByte s.cfg.preambleByte, .wrByte s.cfg.preambleByte, .modeTx, .intUnmask]
        responses := s.responses ++ [⟨.ok, 0⟩] }
    else
      { s.opStart.takeStatus with
        intMasked := false
        trace := s.trace ++ [.intMask, .rdStatus s.opStart.statusWord, .intUnmask]
        responses := s.responses ++ [⟨.ok, 0⟩] })

/-- Rule R106: with collision avoidance disabled TICK neither senses nor counts, and arms a queued packet at once. -/
def Obligations.TickWithoutCollisionAvoidance : Prop :=
  ∀ s : State, s.initDone = true → s.cfg.rxOnly = false → s.RunsThrough → s.protocolState = .receiveIdle →
    s.cfg.caEnabled = false →
    exec .tick s = .next (if s.txRequest = .occupied then
      { s.opStart with
        totalBytes := (s.byteAt .txbuf 2).toNat + (2 + 3 + s.cfg.trailerLen), byteCount := 0
        protocolState := .transmitting, intMasked := false
        trace := s.trace ++ [.intMask, .wrByte s.cfg.preambleByte, .wrByte s.cfg.preambleByte, .modeTx, .intUnmask]
        responses := s.responses ++ [⟨.ok, 0⟩] }
    else s.opStart.respond .ok 0)

/-- Rule R105: after a carrier reading, with the channel clear from then on, the next CHANNEL_FREE_MAX TICKs only count, and the one
after those arms. -/
def Obligations.CountingLaw : Prop :=
  ∀ (s : State) (ws rest : List Nat) (cs : List (Option Nat)),
    s.initDone = true → s.cfg.rxOnly = false → s.cfg.caEnabled = true → s.protocolState = .receiveIdle →
    s.txRequest = .occupied → s.freeCount = s.cfg.channelFreeMax →
    s.statusAnswers = ws ++ rest → ws.length = s.cfg.channelFreeMax + 1 →
    (∀ w ∈ ws, (w % 2 ^ s.cfg.statusW) &&& s.cfg.carrierMask = 0) →
    s.schedule = List.replicate (s.cfg.channelFreeMax + 1) none ++ cs →
    (∀ n, n ≤ s.cfg.channelFreeMax → ∃ t, ticks n s = .next t ∧
      t.protocolState = .receiveIdle ∧ t.freeCount = s.cfg.channelFreeMax - n) ∧
    ∃ t, ticks (s.cfg.channelFreeMax + 1) s = .next t ∧ t.protocolState = .transmitting ∧ t.byteCount = 0

/-- Rule R105: while every TICK senses a carrier no TICK ever starts a transmission, however many there are. -/
def Obligations.CarrierHoldsOff : Prop :=
  ∀ (s : State) (ws rest : List Nat) (cs : List (Option Nat)),
    s.initDone = true → s.cfg.rxOnly = false → s.cfg.caEnabled = true → s.protocolState = .receiveIdle →
    s.statusAnswers = ws ++ rest → (∀ w ∈ ws, (w % 2 ^ s.cfg.statusW) &&& s.cfg.carrierMask ≠ 0) →
    s.schedule = List.replicate ws.length none ++ cs →
    ∃ t, ticks ws.length s = .next t ∧ t.protocolState = .receiveIdle ∧ t.txRequest = s.txRequest ∧
      (ws ≠ [] → t.freeCount = s.cfg.channelFreeMax)

/-! ### ENQUEUE -/

/-- Rules R110 and R111: BUSY first, then TOO_LARGE, neither with any effect; otherwise payload, header and tag are written, and no other
byte of TXBUF. -/
def Obligations.EnqueueOutcome : Prop :=
  ∀ (s : State) (typ len : Byte) (payload : List Byte),
    s.initDone = true → s.cfg.rxOnly = false → s.RunsThrough → payload.length = len.toNat →
    if s.txRequest ≠ .free then exec (.enqueue typ len payload) s = .next (s.opStart.respond .busy 0)
    else if s.cfg.capacity < len.toNat then exec (.enqueue typ len payload) s = .next (s.opStart.respond .tooLarge 0)
    else ∃ t, exec (.enqueue typ len payload) s = .next t ∧
      t = { s.opStart with txbuf := t.txbuf, txRequest := .occupied, responses := s.responses ++ [⟨.ok, 0⟩] } ∧
      (∀ i (h : i < payload.length), t.byteAt .txbuf (5 + i) = payload[i]) ∧
      t.byteAt .txbuf 2 = len ∧ t.byteAt .txbuf 3 = typ ∧ t.byteAt .txbuf 4 = len ^^^ typ ^^^ 0xFF ∧
      ∀ a, a < 2 ∨ 5 + len.toNat ≤ a → t.byteAt .txbuf a = s.byteAt .txbuf a

/-! ### The consumption operations -/

/-- Rule R114: RX_STATUS returns the tag of the slot at `buffer_out`, in every state, and writes nothing. -/
def Obligations.RxStatusReturnsTag : Prop :=
  ∀ s : State, s.initDone = true → s.RunsThrough →
    exec .rxStatus s = .next (s.opStart.respond .ok (match s.slotStatus s.bufferOut with
      | .free => 0x00
      | .occupied => 0x01
      | .complete => 0x02
      | .reserved => 0x03))

/-- Rules R115 and R116 (and R119): the length and the type byte of a Complete slot; of any other slot, some byte. No state is written
(the draw of a free byte advances the model's counter of draws). -/
def Obligations.RxLenAndType : Prop :=
  ∀ s : State, s.initDone = true → s.RunsThrough →
    if s.slotStatus s.bufferOut = .complete then
      exec .rxLen s = .next (s.opStart.respond .ok (s.slotByte s.bufferOut 0)) ∧
      exec .rxType s = .next (s.opStart.respond .ok (s.slotByte s.bufferOut 1))
    else
      (∃ b, exec .rxLen s = .next ({ s.opStart with draws := s.opStart.draws + 1 }.respond .ok b)) ∧
      ∃ b, exec .rxType s = .next ({ s.opStart with draws := s.opStart.draws + 1 }.respond .ok b)

/-- Rule R117 (and R119): RX_DATA with an index of CAPACITY or more answers ILLEGAL, whatever the slot's status; below, the payload byte
of a Complete slot, and of any other slot some byte. No state is written but the model's counter of draws. -/
def Obligations.RxDataReadsPayload : Prop :=
  ∀ (s : State) (index : Byte), s.initDone = true → s.RunsThrough →
    if s.cfg.capacity ≤ index.toNat then exec (.rxData index) s = .next (s.opStart.respond .illegal 0)
    else if s.slotStatus s.bufferOut = .complete then
      exec (.rxData index) s = .next (s.opStart.respond .ok (s.slotByte s.bufferOut (3 + index.toNat)))
    else ∃ b, exec (.rxData index) s = .next ({ s.opStart with draws := s.opStart.draws + 1 }.respond .ok b)

/-- Rule R118: RX_CLEAR frees the slot at `buffer_out` and flips the index; on a slot that is not Complete it answers NOT_COMPLETE and
writes nothing. -/
def Obligations.RxClearOutcome : Prop :=
  ∀ s : State, s.initDone = true → s.RunsThrough →
    exec .rxClear s = .next (if s.slotStatus s.bufferOut = .complete then
      { s.opStart with
        status0 := if s.bufferOut = 0 then .free else s.status0
        status1 := if s.bufferOut = 0 then s.status1 else .free
        bufferOut := s.bufferOut ^^^ 1
        responses := s.responses ++ [⟨.ok, 0⟩] }
    else s.opStart.respond .notComplete 0)

/-! ### The Handler -/

/-- Rules R85 and R86: H_NONE ends the loop: the source is unmasked and nothing else is written. -/
def Obligations.NoEventEndsTheLoop : Prop :=
  ∀ s : State, exec .hNone s = .next { s with
    inHandler := false, intMasked := false, trace := s.trace ++ [.intUnmask] }

/-- Rule R88: the length byte. -/
def Obligations.LengthByteReceived : Prop :=
  ∀ s : State,
    if s.slotStatus s.bufferIn = .free then ∃ t, exec .hRxIdle s = .next t ∧
      t = { s.takeByte with
        chkAcc := s.rxByte, byteCount := 1, totalBytes := s.rxByte.toNat + s.cfg.rxHeaderOverhead
        protocolState := .receiveActive, raw0 := t.raw0, raw1 := t.raw1, trace := s.trace ++ [.rdByte s.rxByte] } ∧
      ∀ k n, t.slotByte k n = if k = s.bufferIn ∧ n = 0 then s.rxByte else s.slotByte k n
    else exec .hRxIdle s = .next { s.takeByte with
      chkAcc := s.rxByte, byteCount := 1, totalBytes := s.rxByte.toNat + s.cfg.rxHeaderOverhead
      protocolState := .receiveIdle, trace := s.trace ++ [.rdByte s.rxByte, .queueClear, .queueArm] }

/-- Rule R89. A byte of the frame is summed, stored where the slot has room, and counted; or, at offset 2 with a sum that is not 0xFF, the
frame is dropped. Once all bytes are counted the slot becomes Complete, `buffer_in` flips and the byte read is discarded (a count above
the total is taken as this branch: decision D6). -/
def Obligations.FrameByteReceived : Prop :=
  ∀ s : State,
    if s.byteCount < s.totalBytes then ∃ t, exec .hRxActive s = .next t ∧
      t = (if s.byteCount = 2 ∧ s.chkAcc ^^^ s.rxByte ≠ 0xFF then
        { s.takeByte with
          chkAcc := s.chkAcc ^^^ s.rxByte, protocolState := .receiveIdle, raw0 := t.raw0, raw1 := t.raw1
          trace := s.trace ++ [.rdByte s.rxByte, .queueClear, .queueArm] }
      else
        { s.takeByte with
          chkAcc := s.chkAcc ^^^ s.rxByte, byteCount := s.byteCount + 1, raw0 := t.raw0, raw1 := t.raw1
          trace := s.trace ++ [.rdByte s.rxByte] }) ∧
      ∀ k n, t.slotByte k n =
        if s.byteCount < 3 + s.cfg.capacity ∧ k = s.bufferIn ∧ n = s.byteCount then s.rxByte else s.slotByte k n
    else exec .hRxActive s = .next { s.takeByte with
      status0 := if s.bufferIn = 0 then .complete else s.status0
      status1 := if s.bufferIn = 0 then s.status1 else .complete
      bufferIn := s.bufferIn ^^^ 1, protocolState := .receiveIdle
      trace := s.trace ++ [.rdByte s.rxByte, .queueClear, .queueArm] }

/-- Rule R91: one byte of the transmit sequence (of a packet within CAPACITY), or the end of the transmission. -/
def Obligations.TransmitStep : Prop :=
  ∀ s : State, (s.byteAt .txbuf 2).toNat ≤ s.cfg.capacity →
    exec .hTx s = .next (if s.byteCount < s.totalBytes then
      { s with
        byteCount := s.byteCount + 1
        trace := s.trace ++ [.wrByte (if s.byteCount < 5 + (s.byteAt .txbuf 2).toNat then s.byteAt .txbuf s.byteCount
          else s.cfg.trailerByte)] }
    else
      { s with
        txRequest := .free, protocolState := .receiveIdle
        trace := s.trace ++ [.modeRx, .wrByte s.cfg.dummyByte, .queueClear, .queueArm] })

/-- Where H_TX faults: only at an offset outside TXBUF (its size is rule R35's, the offset rule R80's), which takes a length byte above
CAPACITY. The spec gives no such stop: the fault is the model's choice for states that no run reaches, DESIGN CHOICE: assumption
log 14. -/
def Obligations.TransmitFaultsOnlyOutsideTheBuffer : Prop :=
  ∀ (s : State) (f : Fault), exec .hTx s = .fault f ↔
    (s.byteCount < s.totalBytes ∧ 5 + s.cfg.capacity ≤ s.byteCount ∧ s.byteCount < 5 + (s.byteAt .txbuf 2).toNat ∧
      f = .outsideBuffer .txbuf s.byteCount)

/-- Rules R92 and R93: the reserved state takes the reset path and nothing else. -/
def Obligations.ReservedStateTakesResetPath : Prop :=
  ∀ s : State, exec .hRsvd s = .next { s with
    protocolState := .receiveIdle, trace := s.trace ++ [.queueClear, .queueArm] }

/-- Rule R79: three header bytes on a Free slot: payload is read next exactly if their XOR is 0xFF; otherwise the machine is back in
ReceiveIdle. In both cases the three bytes are in the slot, which stays Free, and no other byte of either slot has changed. One checksum per length and
type is accepted. -/
def Obligations.HeaderAcceptedExactlyIfSumIsFF : Prop :=
  (∀ (s : State) (len typ sum : Byte) (rest : List Byte), s.cfg.Valid → s.slotStatus s.bufferIn = .free →
    s.byteAnswers = len :: typ :: sum :: rest →
    ∃ t u v, exec .hRxIdle s = .next t ∧ exec .hRxActive t = .next u ∧ exec .hRxActive u = .next v ∧
      v.protocolState = (if len ^^^ typ ^^^ sum = 0xFF then .receiveActive else .receiveIdle) ∧
      v.slotStatus s.bufferIn = .free ∧ v.bufferIn = s.bufferIn ∧ v.byteAnswers = rest ∧
      ∀ k n, v.slotByte k n = if k = s.bufferIn ∧ n = 0 then len else if k = s.bufferIn ∧ n = 1 then typ
        else if k = s.bufferIn ∧ n = 2 then sum else s.slotByte k n) ∧
  (∀ len typ sum : Byte, len ^^^ typ ^^^ sum = 0xFF ↔ sum = chk len typ) ∧
  ∀ len typ : Byte, ∃! sum : Byte, len ^^^ typ ^^^ sum = 0xFF

/-- Rule R98: what the Handler never does. -/
def Obligations.HandlerNeverWrites : Prop :=
  ∀ (i : Instr) (s t : State),
    i = .hNone ∨ i = .hRxIdle ∨ i = .hRxActive ∨ i = .hTx ∨ i = .hRsvd → exec i s = .next t →
    t.bufferOut = s.bufferOut ∧ t.freeCount = s.freeCount ∧ t.txbuf = s.txbuf ∧ t.responses = s.responses ∧
    (∀ n, t.slotByte (s.bufferIn ^^^ 1) n = s.slotByte (s.bufferIn ^^^ 1) n) ∧
    t.slotStatus (s.bufferIn ^^^ 1) = s.slotStatus (s.bufferIn ^^^ 1) ∧
    (∀ k, t.slotStatus k = .free → s.slotStatus k = .free) ∧
    (t.txRequest = .occupied → s.txRequest = .occupied) ∧
    ∃ es, t.trace = s.trace ++ es ∧ .modeTx ∉ es ∧ ∀ w, .wrCfg w ∉ es

/-! ### Bus transactions -/

/-- Rules R43 and R44: a bus read takes the Chip's next answer, of its width, and records it; it writes nothing else. -/
def Obligations.BusReadsTakeOneAnswer : Prop :=
  (∀ s : State, exec .rdStatus s = .next { s.takeStatus with trace := s.trace ++ [.rdStatus s.statusWord] } ∧
    s.statusWord < 2 ^ s.cfg.statusW ∧
    ∀ w ws, s.statusAnswers = w :: ws → s.statusWord = w % 2 ^ s.cfg.statusW ∧ s.takeStatus = { s with statusAnswers := ws }) ∧
  (∀ s : State, exec .rdByte s = .next { s.takeByte with trace := s.trace ++ [.rdByte s.rxByte] } ∧
    ∀ b bs, s.byteAnswers = b :: bs → s.rxByte = b ∧ s.takeByte = { s with byteAnswers := bs })

/-- Rules R44, R124 and R125: a bus write appends its event to the trace and changes no state of PTSM. -/
def Obligations.BusWritesOnlyTrace : Prop :=
  ∀ s : State,
    (∀ b, exec (.wrByte b) s = .next { s with trace := s.trace ++ [.wrByte b] }) ∧
    exec .modeTx s = .next { s with trace := s.trace ++ [.modeTx] } ∧
    exec .modeRx s = .next { s with trace := s.trace ++ [.modeRx] } ∧
    exec .queueClear s = .next { s with trace := s.trace ++ [.queueClear] } ∧
    exec .queueArm s = .next { s with trace := s.trace ++ [.queueArm] } ∧
    ∀ w, exec (.wrCfg w) s = .next { s with trace := s.trace ++ [.wrCfg w] }

/-! ### The step -/

/-- At rest, with a command presented that decodes to an operation, a step is that operation, the command taken. -/
def Obligations.StepRunsTheCommand : Prop :=
  ∀ (s : State) (c : HostCommand) (cs : List HostCommand) (i : Instr),
    s.AtRest → s.hostQueue = c :: cs → decodeHcw c = .ok i → step s = exec i { s with hostQueue := cs }

/-- Rules R85 and R87: while the Handler runs, a step is one iteration of its loop: a status read, then the transition that the word read
and `protocol_state` select. -/
def Obligations.StepRunsOneTransition : Prop :=
  ∀ s : State, s.inHandler = true →
    step s = exec s.handlerInstr { s.takeStatus with trace := s.trace ++ [.rdStatus s.statusWord] }

/-- Rule R71 (a): a presented word with a reserved op answers ILLEGAL, with no state change and no bus transaction. That it does so before
INIT too is the model's reading, DEDUCED: assumption log 10. -/
def Obligations.ReservedOpAnswersIllegal : Prop :=
  ∀ (s : State) (op : BitVec 4) (a b : Byte) (p : List Byte) (cs : List HostCommand),
    op = 0 ∨ 0xA ≤ op.toNat → s.AtRest → s.hostQueue = ⟨hcwWord op a b, p⟩ :: cs → s.RunsThrough ∨ s.initDone = false →
    step s = .next ({ s with hostQueue := cs }.opStart.respond .illegal 0)

/-- Rules R134 and R137: a host operation starts at a preemption point: where an invocation is admitted and the schedule starts one
there, the Handler is entered, masking the source and writing nothing else, and the operation's whole list of steps is kept. -/
def Obligations.HandlerEnteredAtAPoint : Prop :=
  ∀ (i : Instr) (s : State),
    i = .tick ∨ (∃ t n p, i = .enqueue t n p) ∨ i = .rxStatus ∨ i = .rxLen ∨ i = .rxType ∨ (∃ k, i = .rxData k) ∨ i = .rxClear →
    s.initDone = true → s.intMasked = false → s.inHandler = false → s.cfg.polling = false → s.choice = some 0 →
    ∃ m ms, (∀ v : State, v.initDone = true → v.cfg = s.cfg → exec i v = runMainline (m :: ms) v) ∧
      exec i s = .next { s.opStart with
        mainline := m :: ms, inHandler := true, intMasked := true, trace := s.trace ++ [.intMask] }

/-- Rules R137 and R138: once the Handler has returned, the preempted operation goes on from its preemption point. -/
def Obligations.StepResumesMainline : Prop :=
  ∀ (s : State) (m : Micro) (ms : List Micro), s.inHandler = false → s.mainline = m :: ms →
    step s = runMainline (m :: ms) s

/-- Rule R134 between two operations: with no command presented, an invocation starts if the schedule says so and it is admitted;
otherwise nothing happens. -/
def Obligations.IdleStep : Prop :=
  ∀ s : State, s.AtRest → s.hostQueue = [] →
    step s = .next (if s.choice = some 0 ∧ s.initDone = true ∧ s.intMasked = false ∧ s.cfg.polling = false then
      { s.opStart with inHandler := true, intMasked := true, trace := s.trace ++ [.intMask] }
    else s.opStart)

/-- Rule R48: while the Handler runs Mainline takes no step. -/
def Obligations.HandlerIsAtomic : Prop :=
  ∀ s t : State, s.inHandler = true → step s = .next t →
    t.mainline = s.mainline ∧ t.hostQueue = s.hostQueue ∧ t.schedule = s.schedule ∧ t.responses = s.responses ∧
    t.initDone = s.initDone

/-- Rule R33: what Mainline may write. INIT apart, no host operation, cut or uncut, writes `buffer_in`, `chk_acc` or a slot byte, or
frees `tx_request`; only TICK writes `protocol_state` and the counters, to Transmitting alone, and `free_count`; only ENQUEUE writes
TXBUF and takes `tx_request`; only RX_CLEAR writes a tag, to Free alone, and `buffer_out`. -/
def Obligations.MainlineWriteRights : Prop :=
  ∀ (i : Instr) (s t : State),
    i = .tick ∨ (∃ t n p, i = .enqueue t n p) ∨ i = .rxStatus ∨ i = .rxLen ∨ i = .rxType ∨ (∃ k, i = .rxData k) ∨
      i = .rxClear ∨ i = .poll → exec i s = .next t →
    t.bufferIn = s.bufferIn ∧ t.chkAcc = s.chkAcc ∧ t.raw0 = s.raw0 ∧ t.raw1 = s.raw1 ∧
    (t.protocolState = s.protocolState ∧ t.byteCount = s.byteCount ∧ t.totalBytes = s.totalBytes ∨
      i = .tick ∧ t.protocolState = .transmitting ∧ t.byteCount = 0) ∧
    (t.freeCount = s.freeCount ∨ i = .tick) ∧
    (t.txbuf = s.txbuf ∨ ∃ ty n p, i = .enqueue ty n p) ∧
    (t.txRequest = s.txRequest ∨ (∃ ty n p, i = .enqueue ty n p) ∧ t.txRequest = .occupied) ∧
    (t.status0 = s.status0 ∨ i = .rxClear ∧ t.status0 = .free) ∧
    (t.status1 = s.status1 ∨ i = .rxClear ∧ t.status1 = .free) ∧
    (t.bufferOut = s.bufferOut ∨ i = .rxClear)

/-- Rules R8 and R29: no step changes the configuration. -/
def Obligations.ConfigurationIsConstant : Prop :=
  ∀ s t : State, step s = .next t → t.cfg = s.cfg

/-- Rule R45: the bus trace only grows. That the responses of rule R64 are a list of State that only grows too is the model's choice,
DESIGN CHOICE: assumption log 15. -/
def Obligations.OutputsOnlyGrow : Prop :=
  ∀ s t : State, step s = .next t → (∃ es, t.trace = s.trace ++ es) ∧ ∃ rs, t.responses = s.responses ++ rs

/-! ### The whole machine -/

/-- The invariant holds after hardware reset, under every configuration within its constraints. -/
def Obligations.InvariantAtReset : Prop :=
  ∀ c : Config, c.Valid → Inv (State.resetWith c)

/-- Every step keeps the invariant. -/
def Obligations.InvariantKeptByEveryStep : Prop :=
  ∀ s t : State, Inv s → step s = .next t → Inv t

/-- Rules R41 and R132: in a state with the invariant no step faults: no access falls outside a buffer. (The fault itself
is the model's own: assumption log 14.) -/
def Obligations.InvariantExcludesFaults : Prop :=
  ∀ (s : State) (f : Fault), Inv s → step s ≠ .fault f

/-- Rules R32 (a), (b), (d) to (f) and R90 over every run from reset, whatever the host, the Chip and the schedule do: the legal codes,
the tag of the queued packet, the double buffer at every rest, an accepted header in every Complete slot, and no fault. -/
def Obligations.EveryReachableStateIsSound : Prop :=
  ∀ (c : Config) (s : State), c.Valid → Reachable c s →
    s.protocolState ≠ .reserved ∧ (s.protocolState = .transmitting → s.txRequest = .occupied) ∧
    (s.protocolState = .transmitting → s.byteCount ≤ s.totalBytes) ∧
    (s.protocolState = .receiveActive → 1 ≤ s.byteCount ∧ s.byteCount ≤ s.totalBytes ∧ s.slotStatus s.bufferIn = .free) ∧
    (s.mainline = [] → slotsAgree s.bufferIn s.bufferOut s.status0 s.status1 = true) ∧
    (∀ k, s.slotStatus k = .complete → s.slotByte k 0 ^^^ s.slotByte k 1 ^^^ s.slotByte k 2 = 0xFF) ∧
    ∀ f, step s ≠ .fault f

/-- Rules R56, R80 and R91: from the arming on, `total_bytes + 1` ready events write the sync pattern, the header and the payload as they
stand in TXBUF, the trailer bytes and the flush byte, and nothing else, to the Chip; then the buffer is released and the machine is in
ReceiveIdle. -/
def Obligations.TransmissionOnTheBus : Prop :=
  ∀ (s : State) (ws rest : List Nat), s.cfg.Valid → s.inHandler = true → s.protocolState = .transmitting → s.byteCount = 0 →
    s.totalBytes = (s.byteAt .txbuf 2).toNat + (2 + 3 + s.cfg.trailerLen) → (s.byteAt .txbuf 2).toNat ≤ s.cfg.capacity →
    s.statusAnswers = ws ++ rest → ws.length = s.totalBytes + 1 →
    (∀ w ∈ ws, (w % 2 ^ s.cfg.statusW) &&& s.cfg.readyMask ≠ 0) →
    ∃ t, steps (s.totalBytes + 1) s = .next t ∧ t.protocolState = .receiveIdle ∧ t.txRequest = .free ∧ t.txbuf = s.txbuf ∧
      sentBytes t.trace = sentBytes s.trace ++ (List.range (5 + (s.byteAt .txbuf 2).toNat)).map (s.byteAt .txbuf) ++
        List.replicate s.cfg.trailerLen s.cfg.trailerByte ++ [s.cfg.dummyByte]

/-- Rules R84, R90 and R96: fed the bytes a transmitter sends after the sync pattern, a receiver with a Free slot marks it Complete
after exactly `length + RX_HEADER_OVERHEAD + 1` ready events, with the packet's length, type, checksum and payload in it. -/
def Obligations.RoundTrip : Prop :=
  ∀ (s : State) (typ len : Byte) (payload rest : List Byte) (ws more : List Nat),
    s.cfg.Valid → s.inHandler = true → s.protocolState = .receiveIdle → s.slotStatus s.bufferIn = .free →
    payload.length = len.toNat → len.toNat ≤ s.cfg.capacity →
    s.byteAnswers = [len, typ, len ^^^ typ ^^^ 0xFF] ++ payload ++ List.replicate s.cfg.trailerLen s.cfg.trailerByte ++ rest →
    s.statusAnswers = ws ++ more → ws.length = len.toNat + s.cfg.rxHeaderOverhead + 1 →
    (∀ w ∈ ws, (w % 2 ^ s.cfg.statusW) &&& s.cfg.readyMask ≠ 0) →
    ∃ t, steps (len.toNat + s.cfg.rxHeaderOverhead + 1) s = .next t ∧
      t.protocolState = .receiveIdle ∧ t.slotStatus s.bufferIn = .complete ∧ t.bufferIn = s.bufferIn ^^^ 1 ∧
      t.slotByte s.bufferIn 0 = len ∧ t.slotByte s.bufferIn 1 = typ ∧ t.slotByte s.bufferIn 2 = len ^^^ typ ^^^ 0xFF ∧
      ∀ i (h : i < payload.length), t.slotByte s.bufferIn (3 + i) = payload[i]

/-- Rule R152 (hazard H1): a TICK that found ReceiveIdle at T1 and is preempted there by the length byte of a frame still arms: the
reception is abandoned with no reset path, its length byte stale in a slot that is still Free. -/
def Obligations.CheckThenActWindow : Prop :=
  ∀ (s : State) (w0 w1 w2 : Nat) (ws : List Nat) (b : Byte) (bs : List Byte) (cs : List (Option Nat)),
    s.AtRest → s.initDone = true → s.intMasked = false → s.cfg.polling = false → s.cfg.rxOnly = false → s.cfg.caEnabled = true →
    s.protocolState = .receiveIdle → s.slotStatus s.bufferIn = .free → s.txRequest = .occupied → s.freeCount = 0 →
    s.schedule = some 1 :: none :: cs → s.byteAnswers = b :: bs → s.statusAnswers = w0 :: w1 :: w2 :: ws →
    (w0 % 2 ^ s.cfg.statusW) &&& s.cfg.readyMask ≠ 0 → (w1 % 2 ^ s.cfg.statusW) &&& s.cfg.readyMask = 0 →
    (w2 % 2 ^ s.cfg.statusW) &&& s.cfg.carrierMask = 0 →
    ∃ p q r t, exec .tick s = .next p ∧ step p = .next q ∧ step q = .next r ∧ step r = .next t ∧
      p.inHandler = true ∧ q.protocolState = .receiveActive ∧ r.inHandler = false ∧
      t.protocolState = .transmitting ∧ t.byteCount = 0 ∧
      t.totalBytes = (s.byteAt .txbuf 2).toNat + (2 + 3 + s.cfg.trailerLen) ∧
      t.slotStatus s.bufferIn = .free ∧ t.slotByte s.bufferIn 0 = b ∧ t.bufferIn = s.bufferIn ∧ .queueClear ∉ t.trace.drop s.trace.length

/-- Rule R140 (a): a Chip that keeps answering ready keeps the Handler in its loop, for as many status reads as it does so. -/
def Obligations.StuckReadyKeepsTheHandler : Prop :=
  ∀ (s : State) (ws rest : List Nat), Inv s → s.inHandler = true → s.statusAnswers = ws ++ rest →
    (∀ w ∈ ws, (w % 2 ^ s.cfg.statusW) &&& s.cfg.readyMask ≠ 0) →
    ∃ t, steps ws.length s = .next t ∧ t.inHandler = true ∧ t.mainline = s.mainline
end

