-- ==== Sys2Proof/Laws/State.lean ====
section
/-! SUPPORT. One lemma per field per update of State: what each named operation of Machine/Ops.lean does to each field. -/

namespace Sys2Proof.Machine

open Sys2Proof

/-! ### emit -/

@[simp] theorem State.emit_cfg (s : State) (e : Event) : (s.emit e).cfg = s.cfg := rfl
@[simp] theorem State.emit_protocolState (s : State) (e : Event) : (s.emit e).protocolState = s.protocolState := rfl
@[simp] theorem State.emit_byteCount (s : State) (e : Event) : (s.emit e).byteCount = s.byteCount := rfl
@[simp] theorem State.emit_totalBytes (s : State) (e : Event) : (s.emit e).totalBytes = s.totalBytes := rfl
@[simp] theorem State.emit_bufferIn (s : State) (e : Event) : (s.emit e).bufferIn = s.bufferIn := rfl
@[simp] theorem State.emit_bufferOut (s : State) (e : Event) : (s.emit e).bufferOut = s.bufferOut := rfl
@[simp] theorem State.emit_txRequest (s : State) (e : Event) : (s.emit e).txRequest = s.txRequest := rfl
@[simp] theorem State.emit_chkAcc (s : State) (e : Event) : (s.emit e).chkAcc = s.chkAcc := rfl
@[simp] theorem State.emit_freeCount (s : State) (e : Event) : (s.emit e).freeCount = s.freeCount := rfl
@[simp] theorem State.emit_intMasked (s : State) (e : Event) : (s.emit e).intMasked = s.intMasked := rfl
@[simp] theorem State.emit_txbuf (s : State) (e : Event) : (s.emit e).txbuf = s.txbuf := rfl
@[simp] theorem State.emit_raw0 (s : State) (e : Event) : (s.emit e).raw0 = s.raw0 := rfl
@[simp] theorem State.emit_raw1 (s : State) (e : Event) : (s.emit e).raw1 = s.raw1 := rfl
@[simp] theorem State.emit_status0 (s : State) (e : Event) : (s.emit e).status0 = s.status0 := rfl
@[simp] theorem State.emit_status1 (s : State) (e : Event) : (s.emit e).status1 = s.status1 := rfl
@[simp] theorem State.emit_initDone (s : State) (e : Event) : (s.emit e).initDone = s.initDone := rfl
@[simp] theorem State.emit_inHandler (s : State) (e : Event) : (s.emit e).inHandler = s.inHandler := rfl
@[simp] theorem State.emit_mainline (s : State) (e : Event) : (s.emit e).mainline = s.mainline := rfl
@[simp] theorem State.emit_hostQueue (s : State) (e : Event) : (s.emit e).hostQueue = s.hostQueue := rfl
@[simp] theorem State.emit_statusAnswers (s : State) (e : Event) : (s.emit e).statusAnswers = s.statusAnswers := rfl
@[simp] theorem State.emit_byteAnswers (s : State) (e : Event) : (s.emit e).byteAnswers = s.byteAnswers := rfl
@[simp] theorem State.emit_schedule (s : State) (e : Event) : (s.emit e).schedule = s.schedule := rfl
@[simp] theorem State.emit_draws (s : State) (e : Event) : (s.emit e).draws = s.draws := rfl
@[simp] theorem State.emit_trace (s : State) (e : Event) : (s.emit e).trace = s.trace ++ [e] := rfl
@[simp] theorem State.emit_responses (s : State) (e : Event) : (s.emit e).responses = s.responses := rfl

/-! ### respond -/

@[simp] theorem State.respond_cfg (s : State) (rc : ResultCode) (d : Byte) : (s.respond rc d).cfg = s.cfg := rfl
@[simp] theorem State.respond_protocolState (s : State) (rc : ResultCode) (d : Byte) : (s.respond rc d).protocolState = s.protocolState := rfl
@[simp] theorem State.respond_byteCount (s : State) (rc : ResultCode) (d : Byte) : (s.respond rc d).byteCount = s.byteCount := rfl
@[simp] theorem State.respond_totalBytes (s : State) (rc : ResultCode) (d : Byte) : (s.respond rc d).totalBytes = s.totalBytes := rfl
@[simp] theorem State.respond_bufferIn (s : State) (rc : ResultCode) (d : Byte) : (s.respond rc d).bufferIn = s.bufferIn := rfl
@[simp] theorem State.respond_bufferOut (s : State) (rc : ResultCode) (d : Byte) : (s.respond rc d).bufferOut = s.bufferOut := rfl
@[simp] theorem State.respond_txRequest (s : State) (rc : ResultCode) (d : Byte) : (s.respond rc d).txRequest = s.txRequest := rfl
@[simp] theorem State.respond_chkAcc (s : State) (rc : ResultCode) (d : Byte) : (s.respond rc d).chkAcc = s.chkAcc := rfl
@[simp] theorem State.respond_freeCount (s : State) (rc : ResultCode) (d : Byte) : (s.respond rc d).freeCount = s.freeCount := rfl
@[simp] theorem State.respond_intMasked (s : State) (rc : ResultCode) (d : Byte) : (s.respond rc d).intMasked = s.intMasked := rfl
@[simp] theorem State.respond_txbuf (s : State) (rc : ResultCode) (d : Byte) : (s.respond rc d).txbuf = s.txbuf := rfl
@[simp] theorem State.respond_raw0 (s : State) (rc : ResultCode) (d : Byte) : (s.respond rc d).raw0 = s.raw0 := rfl
@[simp] theorem State.respond_raw1 (s : State) (rc : ResultCode) (d : Byte) : (s.respond rc d).raw1 = s.raw1 := rfl
@[simp] theorem State.respond_status0 (s : State) (rc : ResultCode) (d : Byte) : (s.respond rc d).status0 = s.status0 := rfl
@[simp] theorem State.respond_status1 (s : State) (rc : ResultCode) (d : Byte) : (s.respond rc d).status1 = s.status1 := rfl
@[simp] theorem State.respond_initDone (s : State) (rc : ResultCode) (d : Byte) : (s.respond rc d).initDone = s.initDone := rfl
@[simp] theorem State.respond_inHandler (s : State) (rc : ResultCode) (d : Byte) : (s.respond rc d).inHandler = s.inHandler := rfl
@[simp] theorem State.respond_mainline (s : State) (rc : ResultCode) (d : Byte) : (s.respond rc d).mainline = s.mainline := rfl
@[simp] theorem State.respond_hostQueue (s : State) (rc : ResultCode) (d : Byte) : (s.respond rc d).hostQueue = s.hostQueue := rfl
@[simp] theorem State.respond_statusAnswers (s : State) (rc : ResultCode) (d : Byte) : (s.respond rc d).statusAnswers = s.statusAnswers := rfl
@[simp] theorem State.respond_byteAnswers (s : State) (rc : ResultCode) (d : Byte) : (s.respond rc d).byteAnswers = s.byteAnswers := rfl
@[simp] theorem State.respond_schedule (s : State) (rc : ResultCode) (d : Byte) : (s.respond rc d).schedule = s.schedule := rfl
@[simp] theorem State.respond_draws (s : State) (rc : ResultCode) (d : Byte) : (s.respond rc d).draws = s.draws := rfl
@[simp] theorem State.respond_trace (s : State) (rc : ResultCode) (d : Byte) : (s.respond rc d).trace = s.trace := rfl
@[simp] theorem State.respond_responses (s : State) (rc : ResultCode) (d : Byte) : (s.respond rc d).responses = s.responses ++ [⟨rc, d⟩] := rfl

/-! ### intMask -/

@[simp] theorem State.intMask_cfg (s : State) : (s.intMask).cfg = s.cfg := rfl
@[simp] theorem State.intMask_protocolState (s : State) : (s.intMask).protocolState = s.protocolState := rfl
@[simp] theorem State.intMask_byteCount (s : State) : (s.intMask).byteCount = s.byteCount := rfl
@[simp] theorem State.intMask_totalBytes (s : State) : (s.intMask).totalBytes = s.totalBytes := rfl
@[simp] theorem State.intMask_bufferIn (s : State) : (s.intMask).bufferIn = s.bufferIn := rfl
@[simp] theorem State.intMask_bufferOut (s : State) : (s.intMask).bufferOut = s.bufferOut := rfl
@[simp] theorem State.intMask_txRequest (s : State) : (s.intMask).txRequest = s.txRequest := rfl
@[simp] theorem State.intMask_chkAcc (s : State) : (s.intMask).chkAcc = s.chkAcc := rfl
@[simp] theorem State.intMask_freeCount (s : State) : (s.intMask).freeCount = s.freeCount := rfl
@[simp] theorem State.intMask_intMasked (s : State) : (s.intMask).intMasked = true := rfl
@[simp] theorem State.intMask_txbuf (s : State) : (s.intMask).txbuf = s.txbuf := rfl
@[simp] theorem State.intMask_raw0 (s : State) : (s.intMask).raw0 = s.raw0 := rfl
@[simp] theorem State.intMask_raw1 (s : State) : (s.intMask).raw1 = s.raw1 := rfl
@[simp] theorem State.intMask_status0 (s : State) : (s.intMask).status0 = s.status0 := rfl
@[simp] theorem State.intMask_status1 (s : State) : (s.intMask).status1 = s.status1 := rfl
@[simp] theorem State.intMask_initDone (s : State) : (s.intMask).initDone = s.initDone := rfl
@[simp] theorem State.intMask_inHandler (s : State) : (s.intMask).inHandler = s.inHandler := rfl
@[simp] theorem State.intMask_mainline (s : State) : (s.intMask).mainline = s.mainline := rfl
@[simp] theorem State.intMask_hostQueue (s : State) : (s.intMask).hostQueue = s.hostQueue := rfl
@[simp] theorem State.intMask_statusAnswers (s : State) : (s.intMask).statusAnswers = s.statusAnswers := rfl
@[simp] theorem State.intMask_byteAnswers (s : State) : (s.intMask).byteAnswers = s.byteAnswers := rfl
@[simp] theorem State.intMask_schedule (s : State) : (s.intMask).schedule = s.schedule := rfl
@[simp] theorem State.intMask_draws (s : State) : (s.intMask).draws = s.draws := rfl
@[simp] theorem State.intMask_trace (s : State) : (s.intMask).trace = s.trace ++ [.intMask] := rfl
@[simp] theorem State.intMask_responses (s : State) : (s.intMask).responses = s.responses := rfl

/-! ### intUnmask -/

@[simp] theorem State.intUnmask_cfg (s : State) : (s.intUnmask).cfg = s.cfg := rfl
@[simp] theorem State.intUnmask_protocolState (s : State) : (s.intUnmask).protocolState = s.protocolState := rfl
@[simp] theorem State.intUnmask_byteCount (s : State) : (s.intUnmask).byteCount = s.byteCount := rfl
@[simp] theorem State.intUnmask_totalBytes (s : State) : (s.intUnmask).totalBytes = s.totalBytes := rfl
@[simp] theorem State.intUnmask_bufferIn (s : State) : (s.intUnmask).bufferIn = s.bufferIn := rfl
@[simp] theorem State.intUnmask_bufferOut (s : State) : (s.intUnmask).bufferOut = s.bufferOut := rfl
@[simp] theorem State.intUnmask_txRequest (s : State) : (s.intUnmask).txRequest = s.txRequest := rfl
@[simp] theorem State.intUnmask_chkAcc (s : State) : (s.intUnmask).chkAcc = s.chkAcc := rfl
@[simp] theorem State.intUnmask_freeCount (s : State) : (s.intUnmask).freeCount = s.freeCount := rfl
@[simp] theorem State.intUnmask_intMasked (s : State) : (s.intUnmask).intMasked = false := rfl
@[simp] theorem State.intUnmask_txbuf (s : State) : (s.intUnmask).txbuf = s.txbuf := rfl
@[simp] theorem State.intUnmask_raw0 (s : State) : (s.intUnmask).raw0 = s.raw0 := rfl
@[simp] theorem State.intUnmask_raw1 (s : State) : (s.intUnmask).raw1 = s.raw1 := rfl
@[simp] theorem State.intUnmask_status0 (s : State) : (s.intUnmask).status0 = s.status0 := rfl
@[simp] theorem State.intUnmask_status1 (s : State) : (s.intUnmask).status1 = s.status1 := rfl
@[simp] theorem State.intUnmask_initDone (s : State) : (s.intUnmask).initDone = s.initDone := rfl
@[simp] theorem State.intUnmask_inHandler (s : State) : (s.intUnmask).inHandler = s.inHandler := rfl
@[simp] theorem State.intUnmask_mainline (s : State) : (s.intUnmask).mainline = s.mainline := rfl
@[simp] theorem State.intUnmask_hostQueue (s : State) : (s.intUnmask).hostQueue = s.hostQueue := rfl
@[simp] theorem State.intUnmask_statusAnswers (s : State) : (s.intUnmask).statusAnswers = s.statusAnswers := rfl
@[simp] theorem State.intUnmask_byteAnswers (s : State) : (s.intUnmask).byteAnswers = s.byteAnswers := rfl
@[simp] theorem State.intUnmask_schedule (s : State) : (s.intUnmask).schedule = s.schedule := rfl
@[simp] theorem State.intUnmask_draws (s : State) : (s.intUnmask).draws = s.draws := rfl
@[simp] theorem State.intUnmask_trace (s : State) : (s.intUnmask).trace = s.trace ++ [.intUnmask] := rfl
@[simp] theorem State.intUnmask_responses (s : State) : (s.intUnmask).responses = s.responses := rfl

/-! ### enterHandler -/

@[simp] theorem State.enterHandler_cfg (s : State) : (s.enterHandler).cfg = s.cfg := rfl
@[simp] theorem State.enterHandler_protocolState (s : State) : (s.enterHandler).protocolState = s.protocolState := rfl
@[simp] theorem State.enterHandler_byteCount (s : State) : (s.enterHandler).byteCount = s.byteCount := rfl
@[simp] theorem State.enterHandler_totalBytes (s : State) : (s.enterHandler).totalBytes = s.totalBytes := rfl
@[simp] theorem State.enterHandler_bufferIn (s : State) : (s.enterHandler).bufferIn = s.bufferIn := rfl
@[simp] theorem State.enterHandler_bufferOut (s : State) : (s.enterHandler).bufferOut = s.bufferOut := rfl
@[simp] theorem State.enterHandler_txRequest (s : State) : (s.enterHandler).txRequest = s.txRequest := rfl
@[simp] theorem State.enterHandler_chkAcc (s : State) : (s.enterHandler).chkAcc = s.chkAcc := rfl
@[simp] theorem State.enterHandler_freeCount (s : State) : (s.enterHandler).freeCount = s.freeCount := rfl
@[simp] theorem State.enterHandler_intMasked (s : State) : (s.enterHandler).intMasked = true := rfl
@[simp] theorem State.enterHandler_txbuf (s : State) : (s.enterHandler).txbuf = s.txbuf := rfl
@[simp] theorem State.enterHandler_raw0 (s : State) : (s.enterHandler).raw0 = s.raw0 := rfl
@[simp] theorem State.enterHandler_raw1 (s : State) : (s.enterHandler).raw1 = s.raw1 := rfl
@[simp] theorem State.enterHandler_status0 (s : State) : (s.enterHandler).status0 = s.status0 := rfl
@[simp] theorem State.enterHandler_status1 (s : State) : (s.enterHandler).status1 = s.status1 := rfl
@[simp] theorem State.enterHandler_initDone (s : State) : (s.enterHandler).initDone = s.initDone := rfl
@[simp] theorem State.enterHandler_inHandler (s : State) : (s.enterHandler).inHandler = true := rfl
@[simp] theorem State.enterHandler_mainline (s : State) : (s.enterHandler).mainline = s.mainline := rfl
@[simp] theorem State.enterHandler_hostQueue (s : State) : (s.enterHandler).hostQueue = s.hostQueue := rfl
@[simp] theorem State.enterHandler_statusAnswers (s : State) : (s.enterHandler).statusAnswers = s.statusAnswers := rfl
@[simp] theorem State.enterHandler_byteAnswers (s : State) : (s.enterHandler).byteAnswers = s.byteAnswers := rfl
@[simp] theorem State.enterHandler_schedule (s : State) : (s.enterHandler).schedule = s.schedule := rfl
@[simp] theorem State.enterHandler_draws (s : State) : (s.enterHandler).draws = s.draws := rfl
@[simp] theorem State.enterHandler_trace (s : State) : (s.enterHandler).trace = s.trace ++ [.intMask] := rfl
@[simp] theorem State.enterHandler_responses (s : State) : (s.enterHandler).responses = s.responses := rfl

/-! ### leaveHandler -/

@[simp] theorem State.leaveHandler_cfg (s : State) : (s.leaveHandler).cfg = s.cfg := rfl
@[simp] theorem State.leaveHandler_protocolState (s : State) : (s.leaveHandler).protocolState = s.protocolState := rfl
@[simp] theorem State.leaveHandler_byteCount (s : State) : (s.leaveHandler).byteCount = s.byteCount := rfl
@[simp] theorem State.leaveHandler_totalBytes (s : State) : (s.leaveHandler).totalBytes = s.totalBytes := rfl
@[simp] theorem State.leaveHandler_bufferIn (s : State) : (s.leaveHandler).bufferIn = s.bufferIn := rfl
@[simp] theorem State.leaveHandler_bufferOut (s : State) : (s.leaveHandler).bufferOut = s.bufferOut := rfl
@[simp] theorem State.leaveHandler_txRequest (s : State) : (s.leaveHandler).txRequest = s.txRequest := rfl
@[simp] theorem State.leaveHandler_chkAcc (s : State) : (s.leaveHandler).chkAcc = s.chkAcc := rfl
@[simp] theorem State.leaveHandler_freeCount (s : State) : (s.leaveHandler).freeCount = s.freeCount := rfl
@[simp] theorem State.leaveHandler_intMasked (s : State) : (s.leaveHandler).intMasked = false := rfl
@[simp] theorem State.leaveHandler_txbuf (s : State) : (s.leaveHandler).txbuf = s.txbuf := rfl
@[simp] theorem State.leaveHandler_raw0 (s : State) : (s.leaveHandler).raw0 = s.raw0 := rfl
@[simp] theorem State.leaveHandler_raw1 (s : State) : (s.leaveHandler).raw1 = s.raw1 := rfl
@[simp] theorem State.leaveHandler_status0 (s : State) : (s.leaveHandler).status0 = s.status0 := rfl
@[simp] theorem State.leaveHandler_status1 (s : State) : (s.leaveHandler).status1 = s.status1 := rfl
@[simp] theorem State.leaveHandler_initDone (s : State) : (s.leaveHandler).initDone = s.initDone := rfl
@[simp] theorem State.leaveHandler_inHandler (s : State) : (s.leaveHandler).inHandler = false := rfl
@[simp] theorem State.leaveHandler_mainline (s : State) : (s.leaveHandler).mainline = s.mainline := rfl
@[simp] theorem State.leaveHandler_hostQueue (s : State) : (s.leaveHandler).hostQueue = s.hostQueue := rfl
@[simp] theorem State.leaveHandler_statusAnswers (s : State) : (s.leaveHandler).statusAnswers = s.statusAnswers := rfl
@[simp] theorem State.leaveHandler_byteAnswers (s : State) : (s.leaveHandler).byteAnswers = s.byteAnswers := rfl
@[simp] theorem State.leaveHandler_schedule (s : State) : (s.leaveHandler).schedule = s.schedule := rfl
@[simp] theorem State.leaveHandler_draws (s : State) : (s.leaveHandler).draws = s.draws := rfl
@[simp] theorem State.leaveHandler_trace (s : State) : (s.leaveHandler).trace = s.trace ++ [.intUnmask] := rfl
@[simp] theorem State.leaveHandler_responses (s : State) : (s.leaveHandler).responses = s.responses := rfl

/-! ### resetPath -/

@[simp] theorem State.resetPath_cfg (s : State) : (s.resetPath).cfg = s.cfg := rfl
@[simp] theorem State.resetPath_protocolState (s : State) : (s.resetPath).protocolState = .receiveIdle := rfl
@[simp] theorem State.resetPath_byteCount (s : State) : (s.resetPath).byteCount = s.byteCount := rfl
@[simp] theorem State.resetPath_totalBytes (s : State) : (s.resetPath).totalBytes = s.totalBytes := rfl
@[simp] theorem State.resetPath_bufferIn (s : State) : (s.resetPath).bufferIn = s.bufferIn := rfl
@[simp] theorem State.resetPath_bufferOut (s : State) : (s.resetPath).bufferOut = s.bufferOut := rfl
@[simp] theorem State.resetPath_txRequest (s : State) : (s.resetPath).txRequest = s.txRequest := rfl
@[simp] theorem State.resetPath_chkAcc (s : State) : (s.resetPath).chkAcc = s.chkAcc := rfl
@[simp] theorem State.resetPath_freeCount (s : State) : (s.resetPath).freeCount = s.freeCount := rfl
@[simp] theorem State.resetPath_intMasked (s : State) : (s.resetPath).intMasked = s.intMasked := rfl
@[simp] theorem State.resetPath_txbuf (s : State) : (s.resetPath).txbuf = s.txbuf := rfl
@[simp] theorem State.resetPath_raw0 (s : State) : (s.resetPath).raw0 = s.raw0 := rfl
@[simp] theorem State.resetPath_raw1 (s : State) : (s.resetPath).raw1 = s.raw1 := rfl
@[simp] theorem State.resetPath_status0 (s : State) : (s.resetPath).status0 = s.status0 := rfl
@[simp] theorem State.resetPath_status1 (s : State) : (s.resetPath).status1 = s.status1 := rfl
@[simp] theorem State.resetPath_initDone (s : State) : (s.resetPath).initDone = s.initDone := rfl
@[simp] theorem State.resetPath_inHandler (s : State) : (s.resetPath).inHandler = s.inHandler := rfl
@[simp] theorem State.resetPath_mainline (s : State) : (s.resetPath).mainline = s.mainline := rfl
@[simp] theorem State.resetPath_hostQueue (s : State) : (s.resetPath).hostQueue = s.hostQueue := rfl
@[simp] theorem State.resetPath_statusAnswers (s : State) : (s.resetPath).statusAnswers = s.statusAnswers := rfl
@[simp] theorem State.resetPath_byteAnswers (s : State) : (s.resetPath).byteAnswers = s.byteAnswers := rfl
@[simp] theorem State.resetPath_schedule (s : State) : (s.resetPath).schedule = s.schedule := rfl
@[simp] theorem State.resetPath_draws (s : State) : (s.resetPath).draws = s.draws := rfl
@[simp] theorem State.resetPath_trace (s : State) : (s.resetPath).trace = s.trace ++ [.queueClear] ++ [.queueArm] := rfl
@[simp] theorem State.resetPath_responses (s : State) : (s.resetPath).responses = s.responses := rfl

/-! ### wrByte -/

@[simp] theorem State.wrByte_cfg (s : State) (b : Byte) : (s.wrByte b).cfg = s.cfg := rfl
@[simp] theorem State.wrByte_protocolState (s : State) (b : Byte) : (s.wrByte b).protocolState = s.protocolState := rfl
@[simp] theorem State.wrByte_byteCount (s : State) (b : Byte) : (s.wrByte b).byteCount = s.byteCount := rfl
@[simp] theorem State.wrByte_totalBytes (s : State) (b : Byte) : (s.wrByte b).totalBytes = s.totalBytes := rfl
@[simp] theorem State.wrByte_bufferIn (s : State) (b : Byte) : (s.wrByte b).bufferIn = s.bufferIn := rfl
@[simp] theorem State.wrByte_bufferOut (s : State) (b : Byte) : (s.wrByte b).bufferOut = s.bufferOut := rfl
@[simp] theorem State.wrByte_txRequest (s : State) (b : Byte) : (s.wrByte b).txRequest = s.txRequest := rfl
@[simp] theorem State.wrByte_chkAcc (s : State) (b : Byte) : (s.wrByte b).chkAcc = s.chkAcc := rfl
@[simp] theorem State.wrByte_freeCount (s : State) (b : Byte) : (s.wrByte b).freeCount = s.freeCount := rfl
@[simp] theorem State.wrByte_intMasked (s : State) (b : Byte) : (s.wrByte b).intMasked = s.intMasked := rfl
@[simp] theorem State.wrByte_txbuf (s : State) (b : Byte) : (s.wrByte b).txbuf = s.txbuf := rfl
@[simp] theorem State.wrByte_raw0 (s : State) (b : Byte) : (s.wrByte b).raw0 = s.raw0 := rfl
@[simp] theorem State.wrByte_raw1 (s : State) (b : Byte) : (s.wrByte b).raw1 = s.raw1 := rfl
@[simp] theorem State.wrByte_status0 (s : State) (b : Byte) : (s.wrByte b).status0 = s.status0 := rfl
@[simp] theorem State.wrByte_status1 (s : State) (b : Byte) : (s.wrByte b).status1 = s.status1 := rfl
@[simp] theorem State.wrByte_initDone (s : State) (b : Byte) : (s.wrByte b).initDone = s.initDone := rfl
@[simp] theorem State.wrByte_inHandler (s : State) (b : Byte) : (s.wrByte b).inHandler = s.inHandler := rfl
@[simp] theorem State.wrByte_mainline (s : State) (b : Byte) : (s.wrByte b).mainline = s.mainline := rfl
@[simp] theorem State.wrByte_hostQueue (s : State) (b : Byte) : (s.wrByte b).hostQueue = s.hostQueue := rfl
@[simp] theorem State.wrByte_statusAnswers (s : State) (b : Byte) : (s.wrByte b).statusAnswers = s.statusAnswers := rfl
@[simp] theorem State.wrByte_byteAnswers (s : State) (b : Byte) : (s.wrByte b).byteAnswers = s.byteAnswers := rfl
@[simp] theorem State.wrByte_schedule (s : State) (b : Byte) : (s.wrByte b).schedule = s.schedule := rfl
@[simp] theorem State.wrByte_draws (s : State) (b : Byte) : (s.wrByte b).draws = s.draws := rfl
@[simp] theorem State.wrByte_trace (s : State) (b : Byte) : (s.wrByte b).trace = s.trace ++ [.wrByte b] := rfl
@[simp] theorem State.wrByte_responses (s : State) (b : Byte) : (s.wrByte b).responses = s.responses := rfl

/-! ### modeTx -/

@[simp] theorem State.modeTx_cfg (s : State) : (s.modeTx).cfg = s.cfg := rfl
@[simp] theorem State.modeTx_protocolState (s : State) : (s.modeTx).protocolState = s.protocolState := rfl
@[simp] theorem State.modeTx_byteCount (s : State) : (s.modeTx).byteCount = s.byteCount := rfl
@[simp] theorem State.modeTx_totalBytes (s : State) : (s.modeTx).totalBytes = s.totalBytes := rfl
@[simp] theorem State.modeTx_bufferIn (s : State) : (s.modeTx).bufferIn = s.bufferIn := rfl
@[simp] theorem State.modeTx_bufferOut (s : State) : (s.modeTx).bufferOut = s.bufferOut := rfl
@[simp] theorem State.modeTx_txRequest (s : State) : (s.modeTx).txRequest = s.txRequest := rfl
@[simp] theorem State.modeTx_chkAcc (s : State) : (s.modeTx).chkAcc = s.chkAcc := rfl
@[simp] theorem State.modeTx_freeCount (s : State) : (s.modeTx).freeCount = s.freeCount := rfl
@[simp] theorem State.modeTx_intMasked (s : State) : (s.modeTx).intMasked = s.intMasked := rfl
@[simp] theorem State.modeTx_txbuf (s : State) : (s.modeTx).txbuf = s.txbuf := rfl
@[simp] theorem State.modeTx_raw0 (s : State) : (s.modeTx).raw0 = s.raw0 := rfl
@[simp] theorem State.modeTx_raw1 (s : State) : (s.modeTx).raw1 = s.raw1 := rfl
@[simp] theorem State.modeTx_status0 (s : State) : (s.modeTx).status0 = s.status0 := rfl
@[simp] theorem State.modeTx_status1 (s : State) : (s.modeTx).status1 = s.status1 := rfl
@[simp] theorem State.modeTx_initDone (s : State) : (s.modeTx).initDone = s.initDone := rfl
@[simp] theorem State.modeTx_inHandler (s : State) : (s.modeTx).inHandler = s.inHandler := rfl
@[simp] theorem State.modeTx_mainline (s : State) : (s.modeTx).mainline = s.mainline := rfl
@[simp] theorem State.modeTx_hostQueue (s : State) : (s.modeTx).hostQueue = s.hostQueue := rfl
@[simp] theorem State.modeTx_statusAnswers (s : State) : (s.modeTx).statusAnswers = s.statusAnswers := rfl
@[simp] theorem State.modeTx_byteAnswers (s : State) : (s.modeTx).byteAnswers = s.byteAnswers := rfl
@[simp] theorem State.modeTx_schedule (s : State) : (s.modeTx).schedule = s.schedule := rfl
@[simp] theorem State.modeTx_draws (s : State) : (s.modeTx).draws = s.draws := rfl
@[simp] theorem State.modeTx_trace (s : State) : (s.modeTx).trace = s.trace ++ [.modeTx] := rfl
@[simp] theorem State.modeTx_responses (s : State) : (s.modeTx).responses = s.responses := rfl

/-! ### modeRx -/

@[simp] theorem State.modeRx_cfg (s : State) : (s.modeRx).cfg = s.cfg := rfl
@[simp] theorem State.modeRx_protocolState (s : State) : (s.modeRx).protocolState = s.protocolState := rfl
@[simp] theorem State.modeRx_byteCount (s : State) : (s.modeRx).byteCount = s.byteCount := rfl
@[simp] theorem State.modeRx_totalBytes (s : State) : (s.modeRx).totalBytes = s.totalBytes := rfl
@[simp] theorem State.modeRx_bufferIn (s : State) : (s.modeRx).bufferIn = s.bufferIn := rfl
@[simp] theorem State.modeRx_bufferOut (s : State) : (s.modeRx).bufferOut = s.bufferOut := rfl
@[simp] theorem State.modeRx_txRequest (s : State) : (s.modeRx).txRequest = s.txRequest := rfl
@[simp] theorem State.modeRx_chkAcc (s : State) : (s.modeRx).chkAcc = s.chkAcc := rfl
@[simp] theorem State.modeRx_freeCount (s : State) : (s.modeRx).freeCount = s.freeCount := rfl
@[simp] theorem State.modeRx_intMasked (s : State) : (s.modeRx).intMasked = s.intMasked := rfl
@[simp] theorem State.modeRx_txbuf (s : State) : (s.modeRx).txbuf = s.txbuf := rfl
@[simp] theorem State.modeRx_raw0 (s : State) : (s.modeRx).raw0 = s.raw0 := rfl
@[simp] theorem State.modeRx_raw1 (s : State) : (s.modeRx).raw1 = s.raw1 := rfl
@[simp] theorem State.modeRx_status0 (s : State) : (s.modeRx).status0 = s.status0 := rfl
@[simp] theorem State.modeRx_status1 (s : State) : (s.modeRx).status1 = s.status1 := rfl
@[simp] theorem State.modeRx_initDone (s : State) : (s.modeRx).initDone = s.initDone := rfl
@[simp] theorem State.modeRx_inHandler (s : State) : (s.modeRx).inHandler = s.inHandler := rfl
@[simp] theorem State.modeRx_mainline (s : State) : (s.modeRx).mainline = s.mainline := rfl
@[simp] theorem State.modeRx_hostQueue (s : State) : (s.modeRx).hostQueue = s.hostQueue := rfl
@[simp] theorem State.modeRx_statusAnswers (s : State) : (s.modeRx).statusAnswers = s.statusAnswers := rfl
@[simp] theorem State.modeRx_byteAnswers (s : State) : (s.modeRx).byteAnswers = s.byteAnswers := rfl
@[simp] theorem State.modeRx_schedule (s : State) : (s.modeRx).schedule = s.schedule := rfl
@[simp] theorem State.modeRx_draws (s : State) : (s.modeRx).draws = s.draws := rfl
@[simp] theorem State.modeRx_trace (s : State) : (s.modeRx).trace = s.trace ++ [.modeRx] := rfl
@[simp] theorem State.modeRx_responses (s : State) : (s.modeRx).responses = s.responses := rfl

/-! ### wrCfg -/

@[simp] theorem State.wrCfg_cfg (s : State) (w : Nat) : (s.wrCfg w).cfg = s.cfg := rfl
@[simp] theorem State.wrCfg_protocolState (s : State) (w : Nat) : (s.wrCfg w).protocolState = s.protocolState := rfl
@[simp] theorem State.wrCfg_byteCount (s : State) (w : Nat) : (s.wrCfg w).byteCount = s.byteCount := rfl
@[simp] theorem State.wrCfg_totalBytes (s : State) (w : Nat) : (s.wrCfg w).totalBytes = s.totalBytes := rfl
@[simp] theorem State.wrCfg_bufferIn (s : State) (w : Nat) : (s.wrCfg w).bufferIn = s.bufferIn := rfl
@[simp] theorem State.wrCfg_bufferOut (s : State) (w : Nat) : (s.wrCfg w).bufferOut = s.bufferOut := rfl
@[simp] theorem State.wrCfg_txRequest (s : State) (w : Nat) : (s.wrCfg w).txRequest = s.txRequest := rfl
@[simp] theorem State.wrCfg_chkAcc (s : State) (w : Nat) : (s.wrCfg w).chkAcc = s.chkAcc := rfl
@[simp] theorem State.wrCfg_freeCount (s : State) (w : Nat) : (s.wrCfg w).freeCount = s.freeCount := rfl
@[simp] theorem State.wrCfg_intMasked (s : State) (w : Nat) : (s.wrCfg w).intMasked = s.intMasked := rfl
@[simp] theorem State.wrCfg_txbuf (s : State) (w : Nat) : (s.wrCfg w).txbuf = s.txbuf := rfl
@[simp] theorem State.wrCfg_raw0 (s : State) (w : Nat) : (s.wrCfg w).raw0 = s.raw0 := rfl
@[simp] theorem State.wrCfg_raw1 (s : State) (w : Nat) : (s.wrCfg w).raw1 = s.raw1 := rfl
@[simp] theorem State.wrCfg_status0 (s : State) (w : Nat) : (s.wrCfg w).status0 = s.status0 := rfl
@[simp] theorem State.wrCfg_status1 (s : State) (w : Nat) : (s.wrCfg w).status1 = s.status1 := rfl
@[simp] theorem State.wrCfg_initDone (s : State) (w : Nat) : (s.wrCfg w).initDone = s.initDone := rfl
@[simp] theorem State.wrCfg_inHandler (s : State) (w : Nat) : (s.wrCfg w).inHandler = s.inHandler := rfl
@[simp] theorem State.wrCfg_mainline (s : State) (w : Nat) : (s.wrCfg w).mainline = s.mainline := rfl
@[simp] theorem State.wrCfg_hostQueue (s : State) (w : Nat) : (s.wrCfg w).hostQueue = s.hostQueue := rfl
@[simp] theorem State.wrCfg_statusAnswers (s : State) (w : Nat) : (s.wrCfg w).statusAnswers = s.statusAnswers := rfl
@[simp] theorem State.wrCfg_byteAnswers (s : State) (w : Nat) : (s.wrCfg w).byteAnswers = s.byteAnswers := rfl
@[simp] theorem State.wrCfg_schedule (s : State) (w : Nat) : (s.wrCfg w).schedule = s.schedule := rfl
@[simp] theorem State.wrCfg_draws (s : State) (w : Nat) : (s.wrCfg w).draws = s.draws := rfl
@[simp] theorem State.wrCfg_trace (s : State) (w : Nat) : (s.wrCfg w).trace = s.trace ++ [.wrCfg w] := rfl
@[simp] theorem State.wrCfg_responses (s : State) (w : Nat) : (s.wrCfg w).responses = s.responses := rfl

/-! ### takeStatus -/

@[simp] theorem State.takeStatus_cfg (s : State) : (s.takeStatus).cfg = s.cfg := by unfold State.takeStatus; split <;> simp_all
@[simp] theorem State.takeStatus_protocolState (s : State) : (s.takeStatus).protocolState = s.protocolState := by unfold State.takeStatus; split <;> simp_all
@[simp] theorem State.takeStatus_byteCount (s : State) : (s.takeStatus).byteCount = s.byteCount := by unfold State.takeStatus; split <;> simp_all
@[simp] theorem State.takeStatus_totalBytes (s : State) : (s.takeStatus).totalBytes = s.totalBytes := by unfold State.takeStatus; split <;> simp_all
@[simp] theorem State.takeStatus_bufferIn (s : State) : (s.takeStatus).bufferIn = s.bufferIn := by unfold State.takeStatus; split <;> simp_all
@[simp] theorem State.takeStatus_bufferOut (s : State) : (s.takeStatus).bufferOut = s.bufferOut := by unfold State.takeStatus; split <;> simp_all
@[simp] theorem State.takeStatus_txRequest (s : State) : (s.takeStatus).txRequest = s.txRequest := by unfold State.takeStatus; split <;> simp_all
@[simp] theorem State.takeStatus_chkAcc (s : State) : (s.takeStatus).chkAcc = s.chkAcc := by unfold State.takeStatus; split <;> simp_all
@[simp] theorem State.takeStatus_freeCount (s : State) : (s.takeStatus).freeCount = s.freeCount := by unfold State.takeStatus; split <;> simp_all
@[simp] theorem State.takeStatus_intMasked (s : State) : (s.takeStatus).intMasked = s.intMasked := by unfold State.takeStatus; split <;> simp_all
@[simp] theorem State.takeStatus_txbuf (s : State) : (s.takeStatus).txbuf = s.txbuf := by unfold State.takeStatus; split <;> simp_all
@[simp] theorem State.takeStatus_raw0 (s : State) : (s.takeStatus).raw0 = s.raw0 := by unfold State.takeStatus; split <;> simp_all
@[simp] theorem State.takeStatus_raw1 (s : State) : (s.takeStatus).raw1 = s.raw1 := by unfold State.takeStatus; split <;> simp_all
@[simp] theorem State.takeStatus_status0 (s : State) : (s.takeStatus).status0 = s.status0 := by unfold State.takeStatus; split <;> simp_all
@[simp] theorem State.takeStatus_status1 (s : State) : (s.takeStatus).status1 = s.status1 := by unfold State.takeStatus; split <;> simp_all
@[simp] theorem State.takeStatus_initDone (s : State) : (s.takeStatus).initDone = s.initDone := by unfold State.takeStatus; split <;> simp_all
@[simp] theorem State.takeStatus_inHandler (s : State) : (s.takeStatus).inHandler = s.inHandler := by unfold State.takeStatus; split <;> simp_all
@[simp] theorem State.takeStatus_mainline (s : State) : (s.takeStatus).mainline = s.mainline := by unfold State.takeStatus; split <;> simp_all
@[simp] theorem State.takeStatus_hostQueue (s : State) : (s.takeStatus).hostQueue = s.hostQueue := by unfold State.takeStatus; split <;> simp_all
@[simp] theorem State.takeStatus_statusAnswers (s : State) : (s.takeStatus).statusAnswers = s.statusAnswers.tail := by unfold State.takeStatus; split <;> simp_all
@[simp] theorem State.takeStatus_byteAnswers (s : State) : (s.takeStatus).byteAnswers = s.byteAnswers := by unfold State.takeStatus; split <;> simp_all
@[simp] theorem State.takeStatus_schedule (s : State) : (s.takeStatus).schedule = s.schedule := by unfold State.takeStatus; split <;> simp_all
@[simp] theorem State.takeStatus_trace (s : State) : (s.takeStatus).trace = s.trace := by unfold State.takeStatus; split <;> simp_all
@[simp] theorem State.takeStatus_responses (s : State) : (s.takeStatus).responses = s.responses := by unfold State.takeStatus; split <;> simp_all

/-! ### takeByte -/

@[simp] theorem State.takeByte_cfg (s : State) : (s.takeByte).cfg = s.cfg := by unfold State.takeByte; split <;> simp_all
@[simp] theorem State.takeByte_protocolState (s : State) : (s.takeByte).protocolState = s.protocolState := by unfold State.takeByte; split <;> simp_all
@[simp] theorem State.takeByte_byteCount (s : State) : (s.takeByte).byteCount = s.byteCount := by unfold State.takeByte; split <;> simp_all
@[simp] theorem State.takeByte_totalBytes (s : State) : (s.takeByte).totalBytes = s.totalBytes := by unfold State.takeByte; split <;> simp_all
@[simp] theorem State.takeByte_bufferIn (s : State) : (s.takeByte).bufferIn = s.bufferIn := by unfold State.takeByte; split <;> simp_all
@[simp] theorem State.takeByte_bufferOut (s : State) : (s.takeByte).bufferOut = s.bufferOut := by unfold State.takeByte; split <;> simp_all
@[simp] theorem State.takeByte_txRequest (s : State) : (s.takeByte).txRequest = s.txRequest := by unfold State.takeByte; split <;> simp_all
@[simp] theorem State.takeByte_chkAcc (s : State) : (s.takeByte).chkAcc = s.chkAcc := by unfold State.takeByte; split <;> simp_all
@[simp] theorem State.takeByte_freeCount (s : State) : (s.takeByte).freeCount = s.freeCount := by unfold State.takeByte; split <;> simp_all
@[simp] theorem State.takeByte_intMasked (s : State) : (s.takeByte).intMasked = s.intMasked := by unfold State.takeByte; split <;> simp_all
@[simp] theorem State.takeByte_txbuf (s : State) : (s.takeByte).txbuf = s.txbuf := by unfold State.takeByte; split <;> simp_all
@[simp] theorem State.takeByte_raw0 (s : State) : (s.takeByte).raw0 = s.raw0 := by unfold State.takeByte; split <;> simp_all
@[simp] theorem State.takeByte_raw1 (s : State) : (s.takeByte).raw1 = s.raw1 := by unfold State.takeByte; split <;> simp_all
@[simp] theorem State.takeByte_status0 (s : State) : (s.takeByte).status0 = s.status0 := by unfold State.takeByte; split <;> simp_all
@[simp] theorem State.takeByte_status1 (s : State) : (s.takeByte).status1 = s.status1 := by unfold State.takeByte; split <;> simp_all
@[simp] theorem State.takeByte_initDone (s : State) : (s.takeByte).initDone = s.initDone := by unfold State.takeByte; split <;> simp_all
@[simp] theorem State.takeByte_inHandler (s : State) : (s.takeByte).inHandler = s.inHandler := by unfold State.takeByte; split <;> simp_all
@[simp] theorem State.takeByte_mainline (s : State) : (s.takeByte).mainline = s.mainline := by unfold State.takeByte; split <;> simp_all
@[simp] theorem State.takeByte_hostQueue (s : State) : (s.takeByte).hostQueue = s.hostQueue := by unfold State.takeByte; split <;> simp_all
@[simp] theorem State.takeByte_statusAnswers (s : State) : (s.takeByte).statusAnswers = s.statusAnswers := by unfold State.takeByte; split <;> simp_all
@[simp] theorem State.takeByte_byteAnswers (s : State) : (s.takeByte).byteAnswers = s.byteAnswers.tail := by unfold State.takeByte; split <;> simp_all
@[simp] theorem State.takeByte_schedule (s : State) : (s.takeByte).schedule = s.schedule := by unfold State.takeByte; split <;> simp_all
@[simp] theorem State.takeByte_trace (s : State) : (s.takeByte).trace = s.trace := by unfold State.takeByte; split <;> simp_all
@[simp] theorem State.takeByte_responses (s : State) : (s.takeByte).responses = s.responses := by unfold State.takeByte; split <;> simp_all

/-! ### takeChoice -/

@[simp] theorem State.takeChoice_cfg (s : State) : (s.takeChoice).cfg = s.cfg := by unfold State.takeChoice; split <;> simp_all
@[simp] theorem State.takeChoice_protocolState (s : State) : (s.takeChoice).protocolState = s.protocolState := by unfold State.takeChoice; split <;> simp_all
@[simp] theorem State.takeChoice_byteCount (s : State) : (s.takeChoice).byteCount = s.byteCount := by unfold State.takeChoice; split <;> simp_all
@[simp] theorem State.takeChoice_totalBytes (s : State) : (s.takeChoice).totalBytes = s.totalBytes := by unfold State.takeChoice; split <;> simp_all
@[simp] theorem State.takeChoice_bufferIn (s : State) : (s.takeChoice).bufferIn = s.bufferIn := by unfold State.takeChoice; split <;> simp_all
@[simp] theorem State.takeChoice_bufferOut (s : State) : (s.takeChoice).bufferOut = s.bufferOut := by unfold State.takeChoice; split <;> simp_all
@[simp] theorem State.takeChoice_txRequest (s : State) : (s.takeChoice).txRequest = s.txRequest := by unfold State.takeChoice; split <;> simp_all
@[simp] theorem State.takeChoice_chkAcc (s : State) : (s.takeChoice).chkAcc = s.chkAcc := by unfold State.takeChoice; split <;> simp_all
@[simp] theorem State.takeChoice_freeCount (s : State) : (s.takeChoice).freeCount = s.freeCount := by unfold State.takeChoice; split <;> simp_all
@[simp] theorem State.takeChoice_intMasked (s : State) : (s.takeChoice).intMasked = s.intMasked := by unfold State.takeChoice; split <;> simp_all
@[simp] theorem State.takeChoice_txbuf (s : State) : (s.takeChoice).txbuf = s.txbuf := by unfold State.takeChoice; split <;> simp_all
@[simp] theorem State.takeChoice_raw0 (s : State) : (s.takeChoice).raw0 = s.raw0 := by unfold State.takeChoice; split <;> simp_all
@[simp] theorem State.takeChoice_raw1 (s : State) : (s.takeChoice).raw1 = s.raw1 := by unfold State.takeChoice; split <;> simp_all
@[simp] theorem State.takeChoice_status0 (s : State) : (s.takeChoice).status0 = s.status0 := by unfold State.takeChoice; split <;> simp_all
@[simp] theorem State.takeChoice_status1 (s : State) : (s.takeChoice).status1 = s.status1 := by unfold State.takeChoice; split <;> simp_all
@[simp] theorem State.takeChoice_initDone (s : State) : (s.takeChoice).initDone = s.initDone := by unfold State.takeChoice; split <;> simp_all
@[simp] theorem State.takeChoice_inHandler (s : State) : (s.takeChoice).inHandler = s.inHandler := by unfold State.takeChoice; split <;> simp_all
@[simp] theorem State.takeChoice_mainline (s : State) : (s.takeChoice).mainline = s.mainline := by unfold State.takeChoice; split <;> simp_all
@[simp] theorem State.takeChoice_hostQueue (s : State) : (s.takeChoice).hostQueue = s.hostQueue := by unfold State.takeChoice; split <;> simp_all
@[simp] theorem State.takeChoice_statusAnswers (s : State) : (s.takeChoice).statusAnswers = s.statusAnswers := by unfold State.takeChoice; split <;> simp_all
@[simp] theorem State.takeChoice_byteAnswers (s : State) : (s.takeChoice).byteAnswers = s.byteAnswers := by unfold State.takeChoice; split <;> simp_all
@[simp] theorem State.takeChoice_schedule (s : State) : (s.takeChoice).schedule = s.schedule.tail := by unfold State.takeChoice; split <;> simp_all
@[simp] theorem State.takeChoice_trace (s : State) : (s.takeChoice).trace = s.trace := by unfold State.takeChoice; split <;> simp_all
@[simp] theorem State.takeChoice_responses (s : State) : (s.takeChoice).responses = s.responses := by unfold State.takeChoice; split <;> simp_all

/-! ### rdStatus -/

@[simp] theorem State.rdStatus_cfg (s : State) : (s.rdStatus).cfg = s.cfg := by simp [State.rdStatus]
@[simp] theorem State.rdStatus_protocolState (s : State) : (s.rdStatus).protocolState = s.protocolState := by simp [State.rdStatus]
@[simp] theorem State.rdStatus_byteCount (s : State) : (s.rdStatus).byteCount = s.byteCount := by simp [State.rdStatus]
@[simp] theorem State.rdStatus_totalBytes (s : State) : (s.rdStatus).totalBytes = s.totalBytes := by simp [State.rdStatus]
@[simp] theorem State.rdStatus_bufferIn (s : State) : (s.rdStatus).bufferIn = s.bufferIn := by simp [State.rdStatus]
@[simp] theorem State.rdStatus_bufferOut (s : State) : (s.rdStatus).bufferOut = s.bufferOut := by simp [State.rdStatus]
@[simp] theorem State.rdStatus_txRequest (s : State) : (s.rdStatus).txRequest = s.txRequest := by simp [State.rdStatus]
@[simp] theorem State.rdStatus_chkAcc (s : State) : (s.rdStatus).chkAcc = s.chkAcc := by simp [State.rdStatus]
@[simp] theorem State.rdStatus_freeCount (s : State) : (s.rdStatus).freeCount = s.freeCount := by simp [State.rdStatus]
@[simp] theorem State.rdStatus_intMasked (s : State) : (s.rdStatus).intMasked = s.intMasked := by simp [State.rdStatus]
@[simp] theorem State.rdStatus_txbuf (s : State) : (s.rdStatus).txbuf = s.txbuf := by simp [State.rdStatus]
@[simp] theorem State.rdStatus_raw0 (s : State) : (s.rdStatus).raw0 = s.raw0 := by simp [State.rdStatus]
@[simp] theorem State.rdStatus_raw1 (s : State) : (s.rdStatus).raw1 = s.raw1 := by simp [State.rdStatus]
@[simp] theorem State.rdStatus_status0 (s : State) : (s.rdStatus).status0 = s.status0 := by simp [State.rdStatus]
@[simp] theorem State.rdStatus_status1 (s : State) : (s.rdStatus).status1 = s.status1 := by simp [State.rdStatus]
@[simp] theorem State.rdStatus_initDone (s : State) : (s.rdStatus).initDone = s.initDone := by simp [State.rdStatus]
@[simp] theorem State.rdStatus_inHandler (s : State) : (s.rdStatus).inHandler = s.inHandler := by simp [State.rdStatus]
@[simp] theorem State.rdStatus_mainline (s : State) : (s.rdStatus).mainline = s.mainline := by simp [State.rdStatus]
@[simp] theorem State.rdStatus_hostQueue (s : State) : (s.rdStatus).hostQueue = s.hostQueue := by simp [State.rdStatus]
@[simp] theorem State.rdStatus_statusAnswers (s : State) : (s.rdStatus).statusAnswers = s.statusAnswers.tail := by simp [State.rdStatus]
@[simp] theorem State.rdStatus_byteAnswers (s : State) : (s.rdStatus).byteAnswers = s.byteAnswers := by simp [State.rdStatus]
@[simp] theorem State.rdStatus_schedule (s : State) : (s.rdStatus).schedule = s.schedule := by simp [State.rdStatus]
@[simp] theorem State.rdStatus_trace (s : State) : (s.rdStatus).trace = s.trace ++ [.rdStatus s.statusWord] := by simp [State.rdStatus]
@[simp] theorem State.rdStatus_responses (s : State) : (s.rdStatus).responses = s.responses := by simp [State.rdStatus]

/-! ### rdByte -/

@[simp] theorem State.rdByte_cfg (s : State) : (s.rdByte).cfg = s.cfg := by simp [State.rdByte]
@[simp] theorem State.rdByte_protocolState (s : State) : (s.rdByte).protocolState = s.protocolState := by simp [State.rdByte]
@[simp] theorem State.rdByte_byteCount (s : State) : (s.rdByte).byteCount = s.byteCount := by simp [State.rdByte]
@[simp] theorem State.rdByte_totalBytes (s : State) : (s.rdByte).totalBytes = s.totalBytes := by simp [State.rdByte]
@[simp] theorem State.rdByte_bufferIn (s : State) : (s.rdByte).bufferIn = s.bufferIn := by simp [State.rdByte]
@[simp] theorem State.rdByte_bufferOut (s : State) : (s.rdByte).bufferOut = s.bufferOut := by simp [State.rdByte]
@[simp] theorem State.rdByte_txRequest (s : State) : (s.rdByte).txRequest = s.txRequest := by simp [State.rdByte]
@[simp] theorem State.rdByte_chkAcc (s : State) : (s.rdByte).chkAcc = s.chkAcc := by simp [State.rdByte]
@[simp] theorem State.rdByte_freeCount (s : State) : (s.rdByte).freeCount = s.freeCount := by simp [State.rdByte]
@[simp] theorem State.rdByte_intMasked (s : State) : (s.rdByte).intMasked = s.intMasked := by simp [State.rdByte]
@[simp] theorem State.rdByte_txbuf (s : State) : (s.rdByte).txbuf = s.txbuf := by simp [State.rdByte]
@[simp] theorem State.rdByte_raw0 (s : State) : (s.rdByte).raw0 = s.raw0 := by simp [State.rdByte]
@[simp] theorem State.rdByte_raw1 (s : State) : (s.rdByte).raw1 = s.raw1 := by simp [State.rdByte]
@[simp] theorem State.rdByte_status0 (s : State) : (s.rdByte).status0 = s.status0 := by simp [State.rdByte]
@[simp] theorem State.rdByte_status1 (s : State) : (s.rdByte).status1 = s.status1 := by simp [State.rdByte]
@[simp] theorem State.rdByte_initDone (s : State) : (s.rdByte).initDone = s.initDone := by simp [State.rdByte]
@[simp] theorem State.rdByte_inHandler (s : State) : (s.rdByte).inHandler = s.inHandler := by simp [State.rdByte]
@[simp] theorem State.rdByte_mainline (s : State) : (s.rdByte).mainline = s.mainline := by simp [State.rdByte]
@[simp] theorem State.rdByte_hostQueue (s : State) : (s.rdByte).hostQueue = s.hostQueue := by simp [State.rdByte]
@[simp] theorem State.rdByte_statusAnswers (s : State) : (s.rdByte).statusAnswers = s.statusAnswers := by simp [State.rdByte]
@[simp] theorem State.rdByte_byteAnswers (s : State) : (s.rdByte).byteAnswers = s.byteAnswers.tail := by simp [State.rdByte]
@[simp] theorem State.rdByte_schedule (s : State) : (s.rdByte).schedule = s.schedule := by simp [State.rdByte]
@[simp] theorem State.rdByte_trace (s : State) : (s.rdByte).trace = s.trace ++ [.rdByte s.rxByte] := by simp [State.rdByte]
@[simp] theorem State.rdByte_responses (s : State) : (s.rdByte).responses = s.responses := by simp [State.rdByte]

/-! ### opStart -/

@[simp] theorem State.opStart_cfg (s : State) : (s.opStart).cfg = s.cfg := by simp [State.opStart]
@[simp] theorem State.opStart_protocolState (s : State) : (s.opStart).protocolState = s.protocolState := by simp [State.opStart]
@[simp] theorem State.opStart_byteCount (s : State) : (s.opStart).byteCount = s.byteCount := by simp [State.opStart]
@[simp] theorem State.opStart_totalBytes (s : State) : (s.opStart).totalBytes = s.totalBytes := by simp [State.opStart]
@[simp] theorem State.opStart_bufferIn (s : State) : (s.opStart).bufferIn = s.bufferIn := by simp [State.opStart]
@[simp] theorem State.opStart_bufferOut (s : State) : (s.opStart).bufferOut = s.bufferOut := by simp [State.opStart]
@[simp] theorem State.opStart_txRequest (s : State) : (s.opStart).txRequest = s.txRequest := by simp [State.opStart]
@[simp] theorem State.opStart_chkAcc (s : State) : (s.opStart).chkAcc = s.chkAcc := by simp [State.opStart]
@[simp] theorem State.opStart_freeCount (s : State) : (s.opStart).freeCount = s.freeCount := by simp [State.opStart]
@[simp] theorem State.opStart_intMasked (s : State) : (s.opStart).intMasked = s.intMasked := by simp [State.opStart]
@[simp] theorem State.opStart_txbuf (s : State) : (s.opStart).txbuf = s.txbuf := by simp [State.opStart]
@[simp] theorem State.opStart_raw0 (s : State) : (s.opStart).raw0 = s.raw0 := by simp [State.opStart]
@[simp] theorem State.opStart_raw1 (s : State) : (s.opStart).raw1 = s.raw1 := by simp [State.opStart]
@[simp] theorem State.opStart_status0 (s : State) : (s.opStart).status0 = s.status0 := by simp [State.opStart]
@[simp] theorem State.opStart_status1 (s : State) : (s.opStart).status1 = s.status1 := by simp [State.opStart]
@[simp] theorem State.opStart_initDone (s : State) : (s.opStart).initDone = s.initDone := by simp [State.opStart]
@[simp] theorem State.opStart_inHandler (s : State) : (s.opStart).inHandler = s.inHandler := by simp [State.opStart]
@[simp] theorem State.opStart_mainline (s : State) : (s.opStart).mainline = [] := by simp [State.opStart]
@[simp] theorem State.opStart_hostQueue (s : State) : (s.opStart).hostQueue = s.hostQueue := by simp [State.opStart]
@[simp] theorem State.opStart_statusAnswers (s : State) : (s.opStart).statusAnswers = s.statusAnswers := by simp [State.opStart]
@[simp] theorem State.opStart_byteAnswers (s : State) : (s.opStart).byteAnswers = s.byteAnswers := by simp [State.opStart]
@[simp] theorem State.opStart_schedule (s : State) : (s.opStart).schedule = s.schedule.tail := by simp [State.opStart]
@[simp] theorem State.opStart_trace (s : State) : (s.opStart).trace = s.trace := by simp [State.opStart]
@[simp] theorem State.opStart_responses (s : State) : (s.opStart).responses = s.responses := by simp [State.opStart]

/-! ### memWrite -/

@[simp] theorem State.memWrite_cfg (s : State) (sp : Space) (a : Nat) (b : Byte) : (s.memWrite sp a b).cfg = s.cfg := by cases sp <;> rfl
@[simp] theorem State.memWrite_protocolState (s : State) (sp : Space) (a : Nat) (b : Byte) : (s.memWrite sp a b).protocolState = s.protocolState := by cases sp <;> rfl
@[simp] theorem State.memWrite_byteCount (s : State) (sp : Space) (a : Nat) (b : Byte) : (s.memWrite sp a b).byteCount = s.byteCount := by cases sp <;> rfl
@[simp] theorem State.memWrite_totalBytes (s : State) (sp : Space) (a : Nat) (b : Byte) : (s.memWrite sp a b).totalBytes = s.totalBytes := by cases sp <;> rfl
@[simp] theorem State.memWrite_bufferIn (s : State) (sp : Space) (a : Nat) (b : Byte) : (s.memWrite sp a b).bufferIn = s.bufferIn := by cases sp <;> rfl
@[simp] theorem State.memWrite_bufferOut (s : State) (sp : Space) (a : Nat) (b : Byte) : (s.memWrite sp a b).bufferOut = s.bufferOut := by cases sp <;> rfl
@[simp] theorem State.memWrite_txRequest (s : State) (sp : Space) (a : Nat) (b : Byte) : (s.memWrite sp a b).txRequest = s.txRequest := by cases sp <;> rfl
@[simp] theorem State.memWrite_chkAcc (s : State) (sp : Space) (a : Nat) (b : Byte) : (s.memWrite sp a b).chkAcc = s.chkAcc := by cases sp <;> rfl
@[simp] theorem State.memWrite_freeCount (s : State) (sp : Space) (a : Nat) (b : Byte) : (s.memWrite sp a b).freeCount = s.freeCount := by cases sp <;> rfl
@[simp] theorem State.memWrite_intMasked (s : State) (sp : Space) (a : Nat) (b : Byte) : (s.memWrite sp a b).intMasked = s.intMasked := by cases sp <;> rfl
@[simp] theorem State.memWrite_txbuf (s : State) (sp : Space) (a : Nat) (b : Byte) : (s.memWrite sp a b).txbuf = (if sp = .txbuf then Memory.set s.txbuf a b else s.txbuf) := by cases sp <;> rfl
@[simp] theorem State.memWrite_raw0 (s : State) (sp : Space) (a : Nat) (b : Byte) : (s.memWrite sp a b).raw0 = (if sp = .slot0 then Memory.set s.raw0 a b else s.raw0) := by cases sp <;> rfl
@[simp] theorem State.memWrite_raw1 (s : State) (sp : Space) (a : Nat) (b : Byte) : (s.memWrite sp a b).raw1 = (if sp = .slot1 then Memory.set s.raw1 a b else s.raw1) := by cases sp <;> rfl
@[simp] theorem State.memWrite_status0 (s : State) (sp : Space) (a : Nat) (b : Byte) : (s.memWrite sp a b).status0 = s.status0 := by cases sp <;> rfl
@[simp] theorem State.memWrite_status1 (s : State) (sp : Space) (a : Nat) (b : Byte) : (s.memWrite sp a b).status1 = s.status1 := by cases sp <;> rfl
@[simp] theorem State.memWrite_initDone (s : State) (sp : Space) (a : Nat) (b : Byte) : (s.memWrite sp a b).initDone = s.initDone := by cases sp <;> rfl
@[simp] theorem State.memWrite_inHandler (s : State) (sp : Space) (a : Nat) (b : Byte) : (s.memWrite sp a b).inHandler = s.inHandler := by cases sp <;> rfl
@[simp] theorem State.memWrite_mainline (s : State) (sp : Space) (a : Nat) (b : Byte) : (s.memWrite sp a b).mainline = s.mainline := by cases sp <;> rfl
@[simp] theorem State.memWrite_hostQueue (s : State) (sp : Space) (a : Nat) (b : Byte) : (s.memWrite sp a b).hostQueue = s.hostQueue := by cases sp <;> rfl
@[simp] theorem State.memWrite_statusAnswers (s : State) (sp : Space) (a : Nat) (b : Byte) : (s.memWrite sp a b).statusAnswers = s.statusAnswers := by cases sp <;> rfl
@[simp] theorem State.memWrite_byteAnswers (s : State) (sp : Space) (a : Nat) (b : Byte) : (s.memWrite sp a b).byteAnswers = s.byteAnswers := by cases sp <;> rfl
@[simp] theorem State.memWrite_schedule (s : State) (sp : Space) (a : Nat) (b : Byte) : (s.memWrite sp a b).schedule = s.schedule := by cases sp <;> rfl
@[simp] theorem State.memWrite_draws (s : State) (sp : Space) (a : Nat) (b : Byte) : (s.memWrite sp a b).draws = s.draws := by cases sp <;> rfl
@[simp] theorem State.memWrite_trace (s : State) (sp : Space) (a : Nat) (b : Byte) : (s.memWrite sp a b).trace = s.trace := by cases sp <;> rfl
@[simp] theorem State.memWrite_responses (s : State) (sp : Space) (a : Nat) (b : Byte) : (s.memWrite sp a b).responses = s.responses := by cases sp <;> rfl

/-! ### setSlotStatus -/

@[simp] theorem State.setSlotStatus_cfg (s : State) (k : BitVec 1) (t : Tag) : (s.setSlotStatus k t).cfg = s.cfg := by unfold State.setSlotStatus; split <;> rfl
@[simp] theorem State.setSlotStatus_protocolState (s : State) (k : BitVec 1) (t : Tag) : (s.setSlotStatus k t).protocolState = s.protocolState := by unfold State.setSlotStatus; split <;> rfl
@[simp] theorem State.setSlotStatus_byteCount (s : State) (k : BitVec 1) (t : Tag) : (s.setSlotStatus k t).byteCount = s.byteCount := by unfold State.setSlotStatus; split <;> rfl
@[simp] theorem State.setSlotStatus_totalBytes (s : State) (k : BitVec 1) (t : Tag) : (s.setSlotStatus k t).totalBytes = s.totalBytes := by unfold State.setSlotStatus; split <;> rfl
@[simp] theorem State.setSlotStatus_bufferIn (s : State) (k : BitVec 1) (t : Tag) : (s.setSlotStatus k t).bufferIn = s.bufferIn := by unfold State.setSlotStatus; split <;> rfl
@[simp] theorem State.setSlotStatus_bufferOut (s : State) (k : BitVec 1) (t : Tag) : (s.setSlotStatus k t).bufferOut = s.bufferOut := by unfold State.setSlotStatus; split <;> rfl
@[simp] theorem State.setSlotStatus_txRequest (s : State) (k : BitVec 1) (t : Tag) : (s.setSlotStatus k t).txRequest = s.txRequest := by unfold State.setSlotStatus; split <;> rfl
@[simp] theorem State.setSlotStatus_chkAcc (s : State) (k : BitVec 1) (t : Tag) : (s.setSlotStatus k t).chkAcc = s.chkAcc := by unfold State.setSlotStatus; split <;> rfl
@[simp] theorem State.setSlotStatus_freeCount (s : State) (k : BitVec 1) (t : Tag) : (s.setSlotStatus k t).freeCount = s.freeCount := by unfold State.setSlotStatus; split <;> rfl
@[simp] theorem State.setSlotStatus_intMasked (s : State) (k : BitVec 1) (t : Tag) : (s.setSlotStatus k t).intMasked = s.intMasked := by unfold State.setSlotStatus; split <;> rfl
@[simp] theorem State.setSlotStatus_txbuf (s : State) (k : BitVec 1) (t : Tag) : (s.setSlotStatus k t).txbuf = s.txbuf := by unfold State.setSlotStatus; split <;> rfl
@[simp] theorem State.setSlotStatus_raw0 (s : State) (k : BitVec 1) (t : Tag) : (s.setSlotStatus k t).raw0 = s.raw0 := by unfold State.setSlotStatus; split <;> rfl
@[simp] theorem State.setSlotStatus_raw1 (s : State) (k : BitVec 1) (t : Tag) : (s.setSlotStatus k t).raw1 = s.raw1 := by unfold State.setSlotStatus; split <;> rfl
@[simp] theorem State.setSlotStatus_status0 (s : State) (k : BitVec 1) (t : Tag) : (s.setSlotStatus k t).status0 = (if k = 0 then t else s.status0) := by unfold State.setSlotStatus; split <;> rfl
@[simp] theorem State.setSlotStatus_status1 (s : State) (k : BitVec 1) (t : Tag) : (s.setSlotStatus k t).status1 = (if k = 0 then s.status1 else t) := by unfold State.setSlotStatus; split <;> rfl
@[simp] theorem State.setSlotStatus_initDone (s : State) (k : BitVec 1) (t : Tag) : (s.setSlotStatus k t).initDone = s.initDone := by unfold State.setSlotStatus; split <;> rfl
@[simp] theorem State.setSlotStatus_inHandler (s : State) (k : BitVec 1) (t : Tag) : (s.setSlotStatus k t).inHandler = s.inHandler := by unfold State.setSlotStatus; split <;> rfl
@[simp] theorem State.setSlotStatus_mainline (s : State) (k : BitVec 1) (t : Tag) : (s.setSlotStatus k t).mainline = s.mainline := by unfold State.setSlotStatus; split <;> rfl
@[simp] theorem State.setSlotStatus_hostQueue (s : State) (k : BitVec 1) (t : Tag) : (s.setSlotStatus k t).hostQueue = s.hostQueue := by unfold State.setSlotStatus; split <;> rfl
@[simp] theorem State.setSlotStatus_statusAnswers (s : State) (k : BitVec 1) (t : Tag) : (s.setSlotStatus k t).statusAnswers = s.statusAnswers := by unfold State.setSlotStatus; split <;> rfl
@[simp] theorem State.setSlotStatus_byteAnswers (s : State) (k : BitVec 1) (t : Tag) : (s.setSlotStatus k t).byteAnswers = s.byteAnswers := by unfold State.setSlotStatus; split <;> rfl
@[simp] theorem State.setSlotStatus_schedule (s : State) (k : BitVec 1) (t : Tag) : (s.setSlotStatus k t).schedule = s.schedule := by unfold State.setSlotStatus; split <;> rfl
@[simp] theorem State.setSlotStatus_draws (s : State) (k : BitVec 1) (t : Tag) : (s.setSlotStatus k t).draws = s.draws := by unfold State.setSlotStatus; split <;> rfl
@[simp] theorem State.setSlotStatus_trace (s : State) (k : BitVec 1) (t : Tag) : (s.setSlotStatus k t).trace = s.trace := by unfold State.setSlotStatus; split <;> rfl
@[simp] theorem State.setSlotStatus_responses (s : State) (k : BitVec 1) (t : Tag) : (s.setSlotStatus k t).responses = s.responses := by unfold State.setSlotStatus; split <;> rfl

end Sys2Proof.Machine
end

