-- ==== Sys2Proof/Laws/Inputs.lean ====
section
/-! SUPPORT. What taking an input does (rules R54, R134): one equation per draw, without a case split on whether the environment still
has an answer listed. -/

namespace Sys2Proof.Machine

open Sys2Proof

theorem State.takeStatus_eq (s : State) : s.takeStatus = { s with
    statusAnswers := s.statusAnswers.tail
    draws := if s.statusAnswers = [] then s.draws + 1 else s.draws } := by
  obtain ⟨⟩ := s
  unfold State.takeStatus
  split <;> simp_all

theorem State.takeByte_eq (s : State) : s.takeByte = { s with
    byteAnswers := s.byteAnswers.tail
    draws := if s.byteAnswers = [] then s.draws + 1 else s.draws } := by
  obtain ⟨⟩ := s
  unfold State.takeByte
  split <;> simp_all

theorem State.takeChoice_eq (s : State) : s.takeChoice = { s with
    schedule := s.schedule.tail
    draws := if s.schedule = [] then s.draws + 1 else s.draws } := by
  obtain ⟨⟩ := s
  unfold State.takeChoice
  split <;> simp_all

/-- The state in which a stretch of Mainline starts. -/
theorem State.opStart_eq (s : State) : s.opStart = { s with
    mainline := []
    schedule := s.schedule.tail
    draws := if s.schedule = [] then s.draws + 1 else s.draws } := by
  rw [State.opStart, State.takeChoice_eq]

/-- A status word listed by the environment is what the read answers, cut to its width (rule R44). -/
theorem State.statusWord_cons {s : State} {w : Nat} {ws : List Nat} (h : s.statusAnswers = w :: ws) :
    s.statusWord = w % 2 ^ s.cfg.statusW := by
  rw [State.statusWord, h]

/-- A status word fits its width (rule R44). -/
theorem State.statusWord_lt (s : State) : s.statusWord < 2 ^ s.cfg.statusW := Nat.mod_lt _ (by positivity)

/-- A byte listed by the environment is what the read answers. -/
theorem State.rxByte_cons {s : State} {b : Byte} {bs : List Byte} (h : s.byteAnswers = b :: bs) : s.rxByte = b := by
  rw [State.rxByte, h]

/-- The listed choice is the one taken. -/
theorem State.choice_cons {s : State} {c : Option Nat} {cs : List (Option Nat)} (h : s.schedule = c :: cs) : s.choice = c := by
  rw [State.choice, h]

end Sys2Proof.Machine
end

