-- ==== Sys2Proof/Laws/Memory.lean ====
section
/-! SUPPORT. What a buffer read gives after a buffer write, and that a write keeps the canonical form (rules R42, R47). -/

namespace Sys2Proof.Machine

open Sys2Proof

/-- A read after a write: the byte written at that offset, the earlier one elsewhere. -/
theorem Memory.get?_set (m : Memory) (a : Nat) (b : Byte) (x : Nat) :
    Memory.get? (Memory.set m a b) x = if x = a then some b else Memory.get? m x := by
  induction m with
  | nil => rfl
  | cons p m ih =>
    obtain ⟨k, c⟩ := p
    simp only [Memory.set]
    split
    · simp only [Memory.get?]
    · split
      · subst a
        simp only [Memory.get?]
        split <;> rfl
      · rename_i h1 h2
        simp only [Memory.get?, ih]
        by_cases hx : x = k
        · subst hx
          simp [Ne.symm h2]
        · simp [hx]

/-- Every entry after a write is the one written or an earlier one. -/
theorem Memory.mem_set {m : Memory} {a : Nat} {b : Byte} {c : Host.Cell} (h : c ∈ Memory.set m a b) :
    c = (a, b) ∨ c ∈ m := by
  induction m with
  | nil => simpa [Memory.set] using h
  | cons p m ih =>
    obtain ⟨k, d⟩ := p
    simp only [Memory.set] at h
    split at h
    · simpa using h
    · split at h
      · simp only [List.mem_cons] at h ⊢
        tauto
      · simp only [List.mem_cons] at h ⊢
        rcases h with h | h
        · exact Or.inr (Or.inl h)
        · rcases ih h with h | h <;> tauto

/-- A write keeps the canonical form. -/
theorem Memory.wf_set {m : Memory} (h : Memory.wf m) (a : Nat) (b : Byte) : Memory.wf (Memory.set m a b) := by
  induction m with
  | nil => simp [Memory.set, Memory.wf]
  | cons p m ih =>
    obtain ⟨k, d⟩ := p
    obtain ⟨hk, hm⟩ := List.pairwise_cons.mp h
    simp only [Memory.set]
    split
    · rename_i hlt
      refine List.pairwise_cons.mpr ⟨fun c hc => ?_, h⟩
      rcases List.mem_cons.mp hc with rfl | hc
      · exact hlt
      · exact lt_trans hlt (hk c hc)
    · split
      · subst a
        exact List.pairwise_cons.mpr ⟨hk, hm⟩
      · rename_i h1 h2
        refine List.pairwise_cons.mpr ⟨fun c hc => ?_, ih hm⟩
        rcases Memory.mem_set hc with rfl | hc
        · show k < a
          omega
        · exact hk c hc

/-- Reads depend on the three buffers alone. -/
theorem State.byteAt_congr {s t : State} (h : t.txbuf = s.txbuf) (h0 : t.raw0 = s.raw0) (h1 : t.raw1 = s.raw1)
    (sp : Space) (a : Nat) : t.byteAt sp a = s.byteAt sp a := by
  cases sp <;> simp [State.byteAt, State.mem, h, h0, h1]

/-- The bytes of a buffer space after a write. -/
theorem State.mem_memWrite (s : State) (sp : Space) (a : Nat) (b : Byte) (sp' : Space) :
    (s.memWrite sp a b).mem sp' = if sp' = sp then Memory.set (s.mem sp) a b else s.mem sp' := by
  cases sp <;> cases sp' <;> rfl

/-- A read after a write (rule R47): the byte written at that place, the earlier one at every other. -/
theorem State.byteAt_memWrite (s : State) (sp : Space) (a : Nat) (b : Byte) (sp' : Space) (x : Nat) :
    (s.memWrite sp a b).byteAt sp' x = if sp' = sp ∧ x = a then b else s.byteAt sp' x := by
  simp only [State.byteAt, State.mem_memWrite]
  by_cases h : sp' = sp
  · subst h
    simp only [if_true, Memory.get?_set, true_and]
    split <;> simp_all
  · simp [h]

@[simp] theorem State.slotByte_memWrite_txbuf (s : State) (a : Nat) (b : Byte) (k : BitVec 1) (n : Nat) :
    (s.memWrite .txbuf a b).slotByte k n = s.slotByte k n := by
  unfold State.slotByte
  rw [State.byteAt_memWrite, if_neg]
  unfold slotSpace
  split <;> simp

theorem slotSpace_ne_txbuf (k : BitVec 1) : slotSpace k ≠ .txbuf := by
  unfold slotSpace
  split <;> simp

/-- A one-bit index is 0 or 1. -/
theorem bit_cases (k : BitVec 1) : k = 0 ∨ k = 1 := by
  revert k
  decide

theorem slotSpace_inj {j k : BitVec 1} : slotSpace j = slotSpace k ↔ j = k := by
  revert j k
  decide

theorem bit_flip_ne (k : BitVec 1) : k ^^^ 1 ≠ k := by
  revert k
  decide

/-- A slot byte after a write into a slot. -/
theorem State.slotByte_memWrite_slot (s : State) (j : BitVec 1) (a : Nat) (b : Byte) (k : BitVec 1) (n : Nat) :
    (s.memWrite (slotSpace j) a b).slotByte k n = if k = j ∧ n = a then b else s.slotByte k n := by
  unfold State.slotByte
  rw [State.byteAt_memWrite]
  simp only [slotSpace_inj]

@[simp] theorem State.byteAt_txbuf_memWrite_slot (s : State) (j : BitVec 1) (a : Nat) (b : Byte) (n : Nat) :
    (s.memWrite (slotSpace j) a b).byteAt .txbuf n = s.byteAt .txbuf n := by
  rw [State.byteAt_memWrite, if_neg]
  exact fun h => slotSpace_ne_txbuf j h.1.symm

@[simp] theorem State.slotStatus_memWrite (s : State) (sp : Space) (a : Nat) (b : Byte) (k : BitVec 1) :
    (s.memWrite sp a b).slotStatus k = s.slotStatus k := by
  simp [State.slotStatus]

/-- A slot's tag after a tag write. -/
theorem State.slotStatus_setSlotStatus (s : State) (j : BitVec 1) (t : Tag) (k : BitVec 1) :
    (s.setSlotStatus j t).slotStatus k = if k = j then t else s.slotStatus k := by
  rcases bit_cases j with rfl | rfl <;> rcases bit_cases k with rfl | rfl <;> simp [State.slotStatus]

@[simp] theorem State.byteAt_setSlotStatus (s : State) (j : BitVec 1) (t : Tag) (sp : Space) (a : Nat) :
    (s.setSlotStatus j t).byteAt sp a = s.byteAt sp a :=
  State.byteAt_congr (by simp) (by simp) (by simp) sp a

end Sys2Proof.Machine
end

