-- ==== Sys2Proof/Laws/Mainline.lean ====
section
/-! SUPPORT. How a stretch of Mainline runs: uncut, and in general (one induction, which every invariant of a run cites). -/

namespace Sys2Proof.Machine

open Sys2Proof

@[simp] theorem runMicros_nil (c : Option Nat) (s : State) : runMicros c [] s = .next s := rfl

/-- Where the Handler is entered, Mainline stays at that point (rules R134, R137). -/
theorem runMicros_cut {c : Option Nat} {m : Micro} {s : State} (h : cutsHere c m s) (ms : List Micro) :
    runMicros c (m :: ms) s = .next { s with mainline := m :: ms }.enterHandler := by
  rw [runMicros, if_pos h]

/-- Everywhere else the micro-step runs. -/
theorem runMicros_step {c : Option Nat} {m : Micro} {s : State} (h : ¬ cutsHere c m s) (ms : List Micro) :
    runMicros c (m :: ms) s = match microStep m s with
      | .go s' => runMicros (nextChoice c m s) ms s'
      | .ended s' => .next s'
      | .bad f => .fault f := by
  rw [runMicros]
  exact if_neg h

/-- Uncut, a run is the micro-steps one after another. -/
theorem runMicros_uncut (m : Micro) (ms : List Micro) (s : State) :
    runMicros none (m :: ms) s = match microStep m s with
      | .go s' => runMicros none ms s'
      | .ended s' => .next s'
      | .bad f => .fault f := by
  rw [runMicros_step (by simp)]
  simp [nextChoice]

/-- A micro-step changes neither the configuration nor whether INIT has been performed. -/
theorem microStep_fixed {m : Micro} {s t : State} (h : microStep m s = .go t ∨ microStep m s = .ended t) :
    t.cfg = s.cfg ∧ t.initDone = s.initDone ∧ t.inHandler = s.inHandler := by
  cases m <;>
    simp only [microStep, tickIdleStep, tickSenseStep, tickCountStep, tickArmStep, enqCheckStep, txStoreStep, readCompleteStep,
      rxDataStep, rxClearTagStep, State.senseCarrier, State.armTransmission] at h <;>
    rcases h with h | h <;> (repeat' split at h) <;> simp_all <;> (subst h; simp)

/-- In a polling build the choice is without effect: no point admits an invocation (rule R122). -/
theorem runMicros_polling (c : Option Nat) (ms : List Micro) (s : State) (h : s.cfg.polling = true) :
    runMicros c ms s = runMicros none ms s := by
  induction ms generalizing c s with
  | nil => rfl
  | cons m ms ih =>
    have hadm : s.admitsHandler = false := by simp [State.admitsHandler, h]
    rw [runMicros_step (by simp [hadm]), runMicros_uncut]
    cases hm : microStep m s with
    | go t => exact ih _ _ (by rw [(microStep_fixed (Or.inl hm)).1]; exact h)
    | ended t => rfl
    | bad f => rfl

/-- A stretch that runs through is uncut (rules R49, R122). -/
theorem runMainline_through {s : State} (h : s.RunsThrough) (ms : List Micro) :
    runMainline ms s = runMicros none ms s.opStart := by
  unfold runMainline
  rcases h with h | h
  · exact runMicros_polling _ _ _ (by simpa using h)
  · rw [h]

/-- One induction for every property of a run: `P` holds of what is left to run and the state, `Q` of the state the run answers. -/
theorem runMicros_next {P : List Micro → State → Prop} {Q : State → Prop}
    (hgo : ∀ m ms s t, P (m :: ms) s → microStep m s = .go t → P ms t)
    (hend : ∀ m ms s t, P (m :: ms) s → microStep m s = .ended t → Q t)
    (hnil : ∀ s, P [] s → Q s)
    (hcut : ∀ ms s, P (.point :: ms) s → s.admitsHandler = true → Q { s with mainline := .point :: ms }.enterHandler)
    {c : Option Nat} {ms : List Micro} {s t : State} (h : P ms s) (ht : runMicros c ms s = .next t) : Q t := by
  induction ms generalizing c s with
  | nil =>
    injection ht with e
    exact e ▸ hnil s h
  | cons m ms ih =>
    by_cases hc : cutsHere c m s
    · rw [runMicros_cut hc] at ht
      obtain ⟨rfl, -, hadm⟩ := hc
      injection ht with e
      exact e ▸ hcut ms s h hadm
    · rw [runMicros_step hc] at ht
      cases hm : microStep m s with
      | go u => rw [hm] at ht; exact ih (hgo m ms s u h hm) ht
      | ended u => rw [hm] at ht; injection ht with e; exact e ▸ hend m ms s u h hm
      | bad f => rw [hm] at ht; cases ht

/-- The same induction for the absence of a fault. -/
theorem runMicros_no_fault {P : List Micro → State → Prop}
    (hgo : ∀ m ms s t, P (m :: ms) s → microStep m s = .go t → P ms t)
    (hbad : ∀ m ms s f, P (m :: ms) s → microStep m s ≠ .bad f)
    {c : Option Nat} {ms : List Micro} {s : State} (h : P ms s) (f : Fault) : runMicros c ms s ≠ .fault f := by
  induction ms generalizing c s with
  | nil => simp
  | cons m ms ih =>
    by_cases hc : cutsHere c m s
    · rw [runMicros_cut hc]
      simp
    · rw [runMicros_step hc]
      cases hm : microStep m s with
      | go u => exact ih (hgo m ms s u h hm)
      | ended u => simp
      | bad g => exact absurd hm (hbad m ms s g h)

end Sys2Proof.Machine
end

