-- ==== Sys2Proof/Laws/Ops.lean ====
section
/-! SUPPORT. What each shared operation leaves, in one equation each; and what the payload copy of ENQUEUE leaves. -/

namespace Sys2Proof.Machine

open Sys2Proof

/-- The whole of a status read (rule R44). -/
theorem State.rdStatus_eq (s : State) : s.rdStatus = { s with
    statusAnswers := s.statusAnswers.tail
    draws := if s.statusAnswers = [] then s.draws + 1 else s.draws
    trace := s.trace ++ [.rdStatus s.statusWord] } := by
  simp [State.rdStatus, State.takeStatus_eq, State.emit]

/-- The whole of a byte read (rule R44). -/
theorem State.rdByte_eq (s : State) : s.rdByte = { s with
    byteAnswers := s.byteAnswers.tail
    draws := if s.byteAnswers = [] then s.draws + 1 else s.draws
    trace := s.trace ++ [.rdByte s.rxByte] } := by
  simp [State.rdByte, State.takeByte_eq, State.emit]

/-- Entering the Handler (rule R137). -/
theorem State.enterHandler_eq (s : State) : s.enterHandler = { s with
    intMasked := true, inHandler := true, trace := s.trace ++ [.intMask] } := rfl

/-- The return from the Handler (rule R138). -/
theorem State.leaveHandler_eq (s : State) : s.leaveHandler = { s with
    intMasked := false, inHandler := false, trace := s.trace ++ [.intUnmask] } := rfl

/-- The reset path (rule R93). -/
theorem State.resetPath_eq (s : State) : s.resetPath = { s with
    protocolState := .receiveIdle, trace := s.trace ++ [.queueClear, .queueArm] } := by
  simp [State.resetPath, State.queueClear, State.queueArm, State.emit]

/-- The carrier sense (rule R102). -/
theorem State.senseCarrier_eq (s : State) : s.senseCarrier = { s with
    intMasked := false
    statusAnswers := s.statusAnswers.tail
    draws := if s.statusAnswers = [] then s.draws + 1 else s.draws
    trace := s.trace ++ [.intMask, .rdStatus s.statusWord, .intUnmask] } := by
  have h : s.intMask.statusWord = s.statusWord := rfl
  simp [State.senseCarrier, State.rdStatus_eq, State.intUnmask, State.emit, h]
  rfl

/-- The arming of a transmission (rule R104). -/
theorem State.armTransmission_eq (s : State) : s.armTransmission = { s with
    totalBytes := txTotal s.cfg (s.byteAt .txbuf 2), byteCount := 0, protocolState := .transmitting, intMasked := false
    trace := s.trace ++ [.intMask, .wrByte s.cfg.preambleByte, .wrByte s.cfg.preambleByte, .modeTx, .intUnmask] } := by
  have h : s.intMask.byteAt .txbuf 2 = s.byteAt .txbuf 2 := rfl
  simp [State.armTransmission, State.wrByte, State.modeTx, State.intUnmask, State.emit, h]

/-- One `WrCfg` per configuration word, in order (rule R120). -/
theorem State.writeConfig_eq (ws : List Nat) (s : State) :
    s.writeConfig ws = { s with trace := s.trace ++ ws.map .wrCfg } := by
  induction ws generalizing s with
  | nil => simp [State.writeConfig]
  | cons w ws ih =>
    show (s.wrCfg w).writeConfig ws = _
    simp [ih, State.wrCfg, State.emit]

/-- A slot byte once a frame byte has been accepted (rules R41 a, R89). -/
theorem State.slotByte_acceptByte (s : State) (b : Byte) (k : BitVec 1) (n : Nat) :
    (s.acceptByte b).slotByte k n =
      if s.byteCount < 3 + s.cfg.capacity ∧ k = s.bufferIn ∧ n = s.byteCount then b else s.slotByte k n := by
  simp only [State.acceptByte]
  split
  · rw [State.slotByte_memWrite_slot]
    simp_all [State.slotByte, State.byteAt, State.mem]
  · simp_all [State.slotByte, State.byteAt, State.mem]

/-- After INIT a host operation that nothing cuts is its micro-steps one after another. -/
theorem hostOperation_through {s : State} (hi : s.initDone = true) (hr : s.RunsThrough) (ms : List Micro) :
    hostOperation ms s = runMicros none ms s.opStart := by
  rw [hostOperation, if_pos hi, runMainline_through hr]

/-- The payload copy, uncut, inside TXBUF: the bytes stand at their offsets, every other byte as before (rule R110). -/
theorem runMicros_copyProgram (bs : List Byte) (off : Nat) (rest : List Micro) (s : State)
    (h : off + bs.length ≤ s.size .txbuf) :
    ∃ m : Memory, runMicros none (copyProgram off bs ++ rest) s = runMicros none rest { s with txbuf := m } ∧
      (∀ i (hi : i < bs.length), ({ s with txbuf := m } : State).byteAt .txbuf (off + i) = bs[i]) ∧
      ∀ a, a < off ∨ off + bs.length ≤ a → ({ s with txbuf := m } : State).byteAt .txbuf a = s.byteAt .txbuf a := by
  induction bs generalizing off s with
  | nil => exact ⟨s.txbuf, rfl, nofun, fun _ _ => rfl⟩
  | cons b bs ih =>
    rw [List.length_cons] at h
    have hsize : (s.memWrite .txbuf off b).size .txbuf = s.size .txbuf := rfl
    obtain ⟨m, hrun, hnew, hold⟩ := ih (off + 1) (s.memWrite .txbuf off b) (by rw [hsize]; omega)
    have hoff : off < s.size .txbuf := by omega
    refine ⟨m, ?_, ?_, ?_⟩
    · simp only [copyProgram, List.cons_append, runMicros_uncut, microStep, txStoreStep, hoff, if_true]
      exact hrun
    · rintro (_ | i) hi
      · rw [Nat.add_zero, List.getElem_cons_zero]
        refine (hold off (Or.inl (by omega))).trans ?_
        rw [State.byteAt_memWrite, if_pos ⟨rfl, rfl⟩]
      · rw [List.getElem_cons_succ, show off + (i + 1) = off + 1 + i by omega]
        exact hnew i _
    · intro a ha
      rw [List.length_cons] at ha
      refine (hold a (by omega)).trans ?_
      rw [State.byteAt_memWrite, if_neg (by omega)]

end Sys2Proof.Machine
end

