-- ==== Sys2Proof/Tests/Slice0.lean ====
section
/-! SUPPORT. Tests: the decoder on words written out from rules R60, R61, R67 and R72, single steps with results taken from
95_test_vectors.md, and a witness for the hypotheses of every statement that has any. -/

namespace Sys2Proof.Tests

open Sys2Proof Sys2Proof.Machine

/-! ### The states the tests start from -/

/-- After INIT under CFG_REF (V-S1), no preemption scheduled for the next stretches. -/
def live : State :=
  { State.resetWith Config.ref with
    intMasked := false, initDone := true, txbuf := [(0, 0x2D), (1, 0xD4)], schedule := [none, none, none, none, none] }

/-- `live` in an interrupt-driven reception or transmission: the Handler has just been entered. -/
def serving : State := { live with intMasked := true, inHandler := true }

/-- A packet queued: type 01, payload 10 20 30 (P1 after step 2), the countdown at zero. -/
def queued : State :=
  { live with
    txRequest := .occupied, freeCount := 0
    txbuf := [(0, 0x2D), (1, 0xD4), (2, 0x03), (3, 0x01), (4, 0xFD), (5, 0x10), (6, 0x20), (7, 0x30)] }

/-- The same packet being sent, `n` bytes of it written (P1, steps 7 to 16). -/
def sending (n : Nat) : State :=
  { queued with
    protocolState := .transmitting, byteCount := n, totalBytes := 9, intMasked := true, inHandler := true }

/-- P2 before its step `n + 1`, for the three header bytes: a reception of 03 01 FD in slot 0. -/
def receiving (n : Nat) (acc : Byte) (raw : Memory) : State :=
  { serving with protocolState := .receiveActive, byteCount := n, totalBytes := 6, chkAcc := acc, raw0 := raw }

/-- P2 after step 7: slot 0 Complete. -/
def received : State :=
  { live with
    byteCount := 6, totalBytes := 6, chkAcc := 0xFF, bufferIn := 1, status0 := .complete
    raw0 := [(0, 0x03), (1, 0x01), (2, 0xFD), (3, 0x10), (4, 0x20), (5, 0x30)] }

/-- A polling build after INIT (V-S4). -/
def polled : State := { live with cfg := { Config.ref with polling := true } }

/-- What a test reads off a next state. -/
def seen {α : Type} (o : Host.Outcome State Fault Refusal) (f : State → α) : Option α :=
  match o with
  | .next t => some (f t)
  | _ => none

/-- The response given last. -/
def lastResponse (s : State) : Option Response := s.responses.getLast?

/-! ### Well-formed terms -/

/-- Rule R63: exactly `length` payload bytes. -/
theorem test_wellFormed :
    (Instr.enqueue 0x01 0x03 [0x10, 0x20, 0x30]).wellFormed = true ∧ (Instr.enqueue 0x01 0x03 [0x10, 0x20]).wellFormed = false ∧
    (Instr.enqueue 0x01 0x00 [0x10]).wellFormed = false := by decide

/-! ### Decoding -/

/-- Rule R61, each `op` in bits 19 to 16, written bit by bit. -/
theorem test_decode_hcw :
    decodeHcw ⟨0b0001_0000_0000_0000_0000#20, []⟩ = .ok .init ∧
    decodeHcw ⟨0b0010_0000_0000_0000_0000#20, []⟩ = .ok .tick ∧
    decodeHcw ⟨0b0011_0000_0001_0000_0010#20, [0xAB, 0xCD]⟩ = .ok (.enqueue 0x01 0x02 [0xAB, 0xCD]) ∧
    decodeHcw ⟨0b0100_0000_0000_0000_0000#20, []⟩ = .ok .rxStatus ∧
    decodeHcw ⟨0b0101_0000_0000_0000_0000#20, []⟩ = .ok .rxLen ∧
    decodeHcw ⟨0b0110_0000_0000_0000_0000#20, []⟩ = .ok .rxType ∧
    decodeHcw ⟨0b0111_0001_1110_0000_0000#20, []⟩ = .ok (.rxData 0x1E) ∧
    decodeHcw ⟨0b1000_0000_0000_0000_0000#20, []⟩ = .ok .rxClear ∧
    decodeHcw ⟨0b1001_0000_0000_0000_0000#20, []⟩ = .ok .poll := ⟨rfl, rfl, rfl, rfl, rfl, rfl, rfl, rfl, rfl⟩

/-- Rule R71 (a) and V-S3; rule R63. -/
theorem test_decode_rejected :
    decodeHcw ⟨0xA0000, []⟩ = .error (.reservedOp 0xA) ∧ decodeHcw ⟨0x00000, []⟩ = .error (.reservedOp 0x0) ∧
    decodeHcw ⟨0x30102, [0xAB]⟩ = .error (.payloadLength 2 1) := ⟨rfl, rfl, rfl⟩

/-- Rule R67, all eight keys. -/
theorem test_decode_hev :
    decodeHev 0b000 = .hNone ∧ decodeHev 0b001 = .hNone ∧ decodeHev 0b010 = .hNone ∧ decodeHev 0b011 = .hNone ∧
    decodeHev 0b100 = .hRxIdle ∧ decodeHev 0b101 = .hRxActive ∧ decodeHev 0b110 = .hTx ∧ decodeHev 0b111 = .hRsvd := by decide

/-- Rule R72, the symbolic bus words. -/
theorem test_decode_bus :
    decode (.bus .cmdStatus) = .ok .rdStatus ∧ decode (.bus .cmdRxByte) = .ok .rdByte ∧
    decode (.bus (.cmdTxByte 0xAA)) = .ok (.wrByte 0xAA) ∧ decode (.bus .cmdModeTx) = .ok .modeTx ∧
    decode (.bus .cmdModeRx) = .ok .modeRx ∧ decode (.bus .cmdQueueClear) = .ok .queueClear ∧
    decode (.bus .cmdQueueArm) = .ok .queueArm ∧ decode (.bus (.cfgWord 7)) = .ok (.wrCfg 7) :=
  ⟨rfl, rfl, rfl, rfl, rfl, rfl, rfl, rfl⟩

/-- Words numbered as the opcode table numbers them (assumption log 11). -/
theorem test_decodeTableWord :
    decodeTableWord 24 0x2FFFF = some .tick ∧ decodeTableWord 24 0x30902 = some (.enqueue 0x09 0x02 [0x00, 0x00]) ∧
    decodeTableWord 24 0xA0000 = none ∧ decodeTableWord 24 0x110000 = none ∧ decodeTableWord 8 0x5 = some .hRxActive ∧
    decodeTableWord 8 0x9 = none := by decide

/-! ### One step each, from 95_test_vectors.md -/

/-- V-S1. -/
theorem test_init :
    seen (exec .init State.reset) (fun t => (t.protocolState, t.bufferIn, t.bufferOut, t.txRequest, t.freeCount, t.intMasked,
      t.status0, t.status1, t.txbuf, t.trace, lastResponse t)) =
    some (.receiveIdle, 0, 0, .free, 4, false, .free, .free, [(0, 0x2D), (1, 0xD4)], [.intMask, .intUnmask], some ⟨.ok, 0⟩) := rfl

/-- V-S2. -/
theorem test_init_sequence :
    seen (exec .init (State.resetWith { Config.ref with initSeq := [1, 2] })) (·.trace) =
    some [.intMask, .wrCfg 1, .wrCfg 2, .intUnmask] := rfl

/-- V-T3: a carrier reading, the ready bit in it ignored. -/
theorem test_tick_carrier :
    seen (exec .tick { live with freeCount := 0, statusAnswers := [0x8100] })
      (fun t => (t.freeCount, t.protocolState, t.intMasked, t.trace, lastResponse t)) =
    some (4, .receiveIdle, false, [.intMask, .rdStatus 0x8100, .intUnmask], some ⟨.ok, 0⟩) := by decide

/-- Rule R107's example: arming. -/
theorem test_tick_arms :
    seen (exec .tick { queued with statusAnswers := [0x0000] })
      (fun t => (t.protocolState, t.totalBytes, t.byteCount, t.txRequest, t.trace)) =
    some (.transmitting, 9, 0, .occupied, [.intMask, .rdStatus 0, .intUnmask, .intMask, .wrByte 0xAA, .wrByte 0xAA, .modeTx,
      .intUnmask]) := by decide

/-- P1, step 2. -/
theorem test_enqueue :
    seen (exec (.enqueue 0x01 0x03 [0x10, 0x20, 0x30]) live) (fun t => (t.txbuf, t.txRequest, lastResponse t, t.trace)) =
    some (queued.txbuf, .occupied, some ⟨.ok, 0⟩, []) := by decide

/-- V-E3, V-E4: BUSY is tested first. -/
theorem test_enqueue_busy :
    seen (exec (.enqueue 0x02 0x1F (List.replicate 31 0)) queued) (fun t => (t.txbuf, lastResponse t)) =
    some (queued.txbuf, some ⟨.busy, 0⟩) := by decide

/-- P2, steps 8 and 16. -/
theorem test_rxStatus :
    seen (exec .rxStatus received) lastResponse = some (some ⟨.ok, 0x02⟩) ∧
    seen (exec .rxStatus live) lastResponse = some (some ⟨.ok, 0x00⟩) := by decide

/-- P2, step 9. -/
theorem test_rxLen : seen (exec .rxLen received) lastResponse = some (some ⟨.ok, 0x03⟩) := by decide

/-- P2, step 10. -/
theorem test_rxType : seen (exec .rxType received) lastResponse = some (some ⟨.ok, 0x01⟩) := by decide

/-- P2, steps 13 and 14; V-R4. -/
theorem test_rxData :
    seen (exec (.rxData 2) received) lastResponse = some (some ⟨.ok, 0x30⟩) ∧
    seen (exec (.rxData 30) received) lastResponse = some (some ⟨.illegal, 0x00⟩) := by decide

/-- P2, step 15. -/
theorem test_rxClear :
    seen (exec .rxClear received) (fun t => (t.status0, t.bufferOut, t.raw0, lastResponse t)) =
    some (.free, 1, received.raw0, some ⟨.ok, 0⟩) := by decide

/-- V-R3. -/
theorem test_rxClear_notComplete :
    seen (exec .rxClear live) (fun t => (t.status0, t.bufferOut, lastResponse t)) =
    some (.free, 0, some ⟨.notComplete, 0⟩) := by decide

/-- V-S3: POLL in an interrupt build. -/
theorem test_poll_illegal : seen (exec .poll live) (fun t => (lastResponse t, t.inHandler)) = some (some ⟨.illegal, 0⟩, false) := by
  decide

/-- V-S4: POLL in a polling build enters the Handler. -/
theorem test_poll : seen (exec .poll polled) (fun t => (t.inHandler, t.intMasked, t.trace)) = some (true, true, [.intMask]) := by
  decide

/-- V-F8. -/
theorem test_hNone :
    seen (exec .hNone serving) (fun t => (t.inHandler, t.intMasked, t.protocolState, t.trace)) =
    some (false, false, .receiveIdle, [.intUnmask]) := by decide

/-- P2, step 1. -/
theorem test_hRxIdle :
    seen (exec .hRxIdle { serving with byteAnswers := [0x03] })
      (fun t => (t.protocolState, t.byteCount, t.totalBytes, t.chkAcc, t.raw0, t.trace)) =
    some (.receiveActive, 1, 6, 0x03, [(0, 0x03)], [.rdByte 0x03]) := rfl

/-- P3, step 3: both slots Complete, the packet is dropped. -/
theorem test_hRxIdle_drop :
    seen (exec .hRxIdle { serving with status0 := .complete, status1 := .complete, byteAnswers := [0x01] })
      (fun t => (t.protocolState, t.byteCount, t.totalBytes, t.chkAcc, t.raw0, t.raw1, t.trace)) =
    some (.receiveIdle, 1, 4, 0x01, [], [], [.rdByte 0x01, .queueClear, .queueArm]) := rfl

/-- P2, step 3: the header is accepted. -/
theorem test_hRxActive :
    seen (exec .hRxActive { receiving 2 0x02 [(0, 0x03), (1, 0x01)] with byteAnswers := [0xFD] })
      (fun t => (t.protocolState, t.byteCount, t.chkAcc, t.raw0, t.trace)) =
    some (.receiveActive, 3, 0xFF, [(0, 0x03), (1, 0x01), (2, 0xFD)], [.rdByte 0xFD]) := rfl

/-- V-F3: the checksum byte FC is stored, the frame dropped. -/
theorem test_hRxActive_mismatch :
    seen (exec .hRxActive { receiving 2 0x02 [(0, 0x03), (1, 0x01)] with byteAnswers := [0xFC] })
      (fun t => (t.protocolState, t.byteCount, t.chkAcc, t.raw0, t.status0, t.bufferIn, t.trace)) =
    some (.receiveIdle, 2, 0xFE, [(0, 0x03), (1, 0x01), (2, 0xFC)], .free, 0, [.rdByte 0xFC, .queueClear, .queueArm]) := rfl

/-- Rule R91's example: the byte at index 4 is the checksum. -/
theorem test_hTx :
    seen (exec .hTx (sending 4)) (fun t => (t.byteCount, t.protocolState, t.trace)) =
    some (5, .transmitting, [.wrByte 0xFD]) := by decide

/-- P1, step 17. -/
theorem test_hTx_completes :
    seen (exec .hTx (sending 9)) (fun t => (t.byteCount, t.protocolState, t.txRequest, t.trace)) =
    some (9, .receiveIdle, .free, [.modeRx, .wrByte 0xAA, .queueClear, .queueArm]) := by decide

/-- V-F10. -/
theorem test_hRsvd :
    seen (exec .hRsvd { serving with protocolState := .reserved }) (fun t => (t.protocolState, t.trace)) =
    some (.receiveIdle, [.queueClear, .queueArm]) := by decide

/-- Rule R44: the status answer is cut to STATUS_W bits and is in the event. -/
theorem test_rdStatus :
    seen (exec .rdStatus { serving with statusAnswers := [0x18123, 5] }) (fun t => (t.trace, t.statusAnswers)) =
    some ([.rdStatus 0x8123], [5]) := by decide

/-- Rule R44: the byte answer is in the event. -/
theorem test_rdByte :
    seen (exec .rdByte { serving with byteAnswers := [0x07, 0x08] }) (fun t => (t.trace, t.byteAnswers)) =
    some ([.rdByte 0x07], [0x08]) := by decide

/-- Rules R44, R124, R125: the bus writes. -/
theorem test_bus_writes :
    seen (exec (.wrByte 0x2D) live) (·.trace) = some [.wrByte 0x2D] ∧ seen (exec .modeTx live) (·.trace) = some [.modeTx] ∧
    seen (exec .modeRx live) (·.trace) = some [.modeRx] ∧ seen (exec .queueClear live) (·.trace) = some [.queueClear] ∧
    seen (exec .queueArm live) (·.trace) = some [.queueArm] ∧ seen (exec (.wrCfg 9) live) (·.trace) = some [.wrCfg 9] := by decide

/-! ### The step -/

/-- V-S3: a reserved op is ILLEGAL (also before INIT); a TICK before INIT is refused (rule R121). -/
theorem test_step_illegal :
    seen (step { live with hostQueue := [⟨0xF1234, []⟩] }) lastResponse = some (some ⟨.illegal, 0⟩) ∧
    seen (step { State.reset with hostQueue := [⟨0xF1234, []⟩], schedule := [none] }) lastResponse = some (some ⟨.illegal, 0⟩) ∧
    seen (step { State.reset with hostQueue := [⟨0x20000, []⟩] }) lastResponse = none := by decide

/-- V-F9: the loop goes on with the ready bit (8123) and ends without it (0123). -/
theorem test_step_handler :
    seen (step { serving with statusAnswers := [0x8123], byteAnswers := [0x07] }) (fun t => (t.inHandler, t.byteCount, t.totalBytes)) =
    some (true, 1, 10) ∧
    seen (step { serving with statusAnswers := [0x0123] }) (fun t => (t.inHandler, t.trace)) =
    some (false, [.rdStatus 0x0123, .intUnmask]) := by decide

/-- V-E6: the Handler entered inside ENQUEUE after the write of TXBUF offset 6 (the fourth admitted point), the rest kept; and the
rest then runs. -/
theorem test_step_preempted :
    seen (exec (.enqueue 0x01 0x03 [0x10, 0x20, 0x30]) { live with schedule := [some 2] })
      (fun t => (t.inHandler, t.txbuf, t.mainline.length)) = some (true, [(0, 0x2D), (1, 0xD4), (5, 0x10), (6, 0x20)], 11) ∧
    seen (step { live with
        txbuf := [(0, 0x2D), (1, 0xD4), (5, 0x10), (6, 0x20)]
        mainline := [.point, .txStore 7 0x30, .point, .txStore 2 0x03, .point, .txStore 3 0x01, .point, .txStore 4 0xFD, .point,
          .enqTag, .raise .ok] }) (fun t => (t.txbuf, t.txRequest, t.mainline)) = some (queued.txbuf, .occupied, []) := by decide

/-- A placed word is what the next step runs. -/
theorem test_withFetchWord :
    seen (step (State.reset.withFetchWord 24 0x10000)) (·.initDone) = some true ∧
    seen (step (State.reset.withFetchWord 24 0x20000)) (fun t => (t.freeCount, t.initDone)) = some (3, true) ∧
    seen (step (State.reset.withFetchWord 8 0b111)) (·.trace) = some [.rdStatus 0x8000, .queueClear, .queueArm] := ⟨rfl, rfl, rfl⟩

/-- Reset memory has the canonical form; a write keeps the offsets rising. -/
theorem test_memory :
    Memory.wf State.reset.txbuf ∧ Memory.set [(1, 0x11), (4, 0x44)] 2 0x22 = [(1, 0x11), (2, 0x22), (4, 0x44)] ∧
    Memory.set [(1, 0x11), (4, 0x44)] 4 0x55 = [(1, 0x11), (4, 0x55)] := by decide

/-! ### Witnesses: states and operands that meet the hypotheses of each statement -/

/-- A frame within CAPACITY whose length byte is the largest: TXBUF full (V-E2). -/
def full : State := { queued with txbuf := [(0, 0x2D), (1, 0xD4), (2, 0x1E), (3, 0x01), (4, 0xE0), (5, 0x00), (34, 0x1D)] }

theorem witness_configValid : Config.ref.Valid := by decide

theorem witness_DecodeEncodeAgree : (Instr.enqueue 0x01 0x02 [0xAB, 0xCD]).wellFormed = true := by decide

theorem witness_IgnoredFieldsHaveNoEffect : ([0xAB, 0xCD] : List Byte).length = (0x02 : Byte).toNat := by decide

theorem witness_ReservedOpsAreRejected : (0x0#4 = 0 ∨ 0xA ≤ (0x0#4).toNat) ∧ (0xA#4 = 0 ∨ 0xA ≤ (0xA#4).toNat) ∧
    ¬ (0x9#4 = 0 ∨ 0xA ≤ (0x9#4).toNat) := by decide

/-- The last payload byte of a full buffer, and the trailer byte behind it. -/
theorem witness_TransmitSequence : (full.byteAt .txbuf 2).toNat ≤ full.cfg.capacity ∧
    35 < (full.byteAt .txbuf 2).toNat + full.cfg.txOverhead ∧ full.txSeq 34 = some 0x1D ∧ full.txSeq 35 = some 0xAA := by decide

theorem witness_InitBringsUp : State.reset.initDone = false := by decide

theorem witness_InitWritesOnlyTheSyncBytes : ∃ t, exec .init State.reset = .next t := ⟨_, rfl⟩

theorem witness_InitFirstAndOnce : live.initDone = true ∧ State.reset.initDone = false := by decide

theorem witness_PollEntersHandler : polled.initDone = true ∧ polled.cfg.polling = true := by decide

theorem witness_PollWithoutEvent : let s : State := { polled with statusAnswers := [0x0100] }
    s.initDone = true ∧ s.cfg.polling = true ∧ s.statusWord &&& s.cfg.readyMask = 0 := by decide

/-- A receive-only build. -/
def listening : State := { live with cfg := { Config.ref with rxOnly := true } }

theorem witness_DisabledOperationsAreIllegal : (live.initDone = true ∧ live.RunsThrough ∧ live.cfg.polling = false) ∧
    listening.initDone = true ∧ listening.RunsThrough ∧ listening.cfg.rxOnly = true :=
  ⟨⟨rfl, Or.inr rfl, rfl⟩, rfl, Or.inr rfl, rfl⟩

theorem witness_TickOutsideIdleDoesNothing : let s : State := { live with protocolState := .receiveActive }
    s.initDone = true ∧ s.cfg.rxOnly = false ∧ s.RunsThrough ∧ s.protocolState ≠ .receiveIdle :=
  ⟨rfl, rfl, Or.inr rfl, by decide⟩

theorem witness_TickCarrierReloads : let s : State := { live with statusAnswers := [0x0100] }
    s.initDone = true ∧ s.cfg.rxOnly = false ∧ s.RunsThrough ∧ s.protocolState = .receiveIdle ∧ s.cfg.caEnabled = true ∧
    s.opStart.statusWord &&& s.cfg.carrierMask ≠ 0 := ⟨rfl, rfl, Or.inr rfl, rfl, rfl, by decide⟩

/-- At the largest countdown and at one. -/
theorem witness_TickCountsDown : ∀ n ∈ [4, 1], let s : State := { live with freeCount := n, statusAnswers := [0x8000] }
    s.initDone = true ∧ s.cfg.rxOnly = false ∧ s.choice = none ∧ s.protocolState = .receiveIdle ∧ s.cfg.caEnabled = true ∧
    s.opStart.statusWord &&& s.cfg.carrierMask = 0 ∧ s.freeCount ≠ 0 := by decide

/-- With and without a queued packet. -/
theorem witness_TickArmsQueuedPacket : ∀ r ∈ [Tag.occupied, Tag.free],
    let s : State := { queued with txRequest := r, statusAnswers := [0x0000] }
    s.initDone = true ∧ s.cfg.rxOnly = false ∧ s.choice = none ∧ s.protocolState = .receiveIdle ∧ s.cfg.caEnabled = true ∧
    s.opStart.statusWord &&& s.cfg.carrierMask = 0 ∧ s.freeCount = 0 := by decide

theorem witness_TickWithoutCollisionAvoidance : let s : State := { queued with cfg := { Config.ref with caEnabled := false } }
    s.initDone = true ∧ s.cfg.rxOnly = false ∧ s.RunsThrough ∧ s.protocolState = .receiveIdle ∧ s.cfg.caEnabled = false :=
  ⟨rfl, rfl, Or.inr rfl, rfl, rfl⟩

/-- P4 from tick 6 on. -/
theorem witness_CountingLaw : let s : State := { queued with freeCount := 4, statusAnswers := [0, 0x8000, 0, 0, 0, 0x0100] }
    s.initDone = true ∧ s.cfg.rxOnly = false ∧ s.cfg.caEnabled = true ∧ s.protocolState = .receiveIdle ∧
    s.txRequest = .occupied ∧ s.freeCount = s.cfg.channelFreeMax ∧ s.statusAnswers = [0, 0x8000, 0, 0, 0] ++ [0x0100] ∧
    [0, 0x8000, 0, 0, 0].length = s.cfg.channelFreeMax + 1 ∧
    (∀ w ∈ [0, 0x8000, 0, 0, 0], (w % 2 ^ s.cfg.statusW) &&& s.cfg.carrierMask = 0) ∧
    s.schedule = List.replicate (s.cfg.channelFreeMax + 1) none ++ [] := by decide

theorem witness_CarrierHoldsOff : let s : State := { queued with statusAnswers := [0x0100, 0x8100] }
    s.initDone = true ∧ s.cfg.rxOnly = false ∧ s.cfg.caEnabled = true ∧ s.protocolState = .receiveIdle ∧
    s.statusAnswers = [0x0100, 0x8100] ++ [] ∧
    (∀ w ∈ [0x0100, 0x8100], (w % 2 ^ s.cfg.statusW) &&& s.cfg.carrierMask ≠ 0) ∧
    s.schedule = List.replicate 2 none ++ [none, none, none] := by decide

/-- Accepted at length 0 and at CAPACITY, too large one above, busy. -/
theorem witness_EnqueueOutcome : (live.initDone = true ∧ live.cfg.rxOnly = false ∧ live.RunsThrough) ∧
    live.txRequest = .free ∧ ([] : List Byte).length = (0x00 : Byte).toNat ∧
    ((List.replicate 30 (0 : Byte)).length = (0x1E : Byte).toNat ∧ ¬ live.cfg.capacity < (0x1E : Byte).toNat) ∧
    ((List.replicate 31 (0 : Byte)).length = (0x1F : Byte).toNat ∧ live.cfg.capacity < (0x1F : Byte).toNat) ∧
    (queued.initDone = true ∧ queued.cfg.rxOnly = false ∧ queued.RunsThrough ∧ queued.txRequest ≠ .free) :=
  ⟨⟨rfl, rfl, Or.inr rfl⟩, rfl, rfl, by decide, by decide, rfl, rfl, Or.inr rfl, by decide⟩

theorem witness_RxStatusReturnsTag : received.initDone = true ∧ received.RunsThrough := ⟨rfl, Or.inr rfl⟩

/-- On a Complete slot and on a Free one. -/
theorem witness_RxLenAndType : (received.initDone = true ∧ received.RunsThrough ∧
    received.slotStatus received.bufferOut = .complete) ∧
    live.initDone = true ∧ live.RunsThrough ∧ live.slotStatus live.bufferOut ≠ .complete :=
  ⟨⟨rfl, Or.inr rfl, rfl⟩, rfl, Or.inr rfl, by decide⟩

/-- The index at its last legal and its first illegal value, on a Complete slot and on a Free one. -/
theorem witness_RxDataReadsPayload : (received.initDone = true ∧ received.RunsThrough ∧
    received.slotStatus received.bufferOut = .complete) ∧
    (live.initDone = true ∧ live.RunsThrough ∧ live.slotStatus live.bufferOut ≠ .complete) ∧
    ¬ live.cfg.capacity ≤ (29 : Byte).toNat ∧ live.cfg.capacity ≤ (30 : Byte).toNat :=
  ⟨⟨rfl, Or.inr rfl, rfl⟩, ⟨rfl, Or.inr rfl, by decide⟩, by decide, by decide⟩

/-- On a Complete slot and on a Free one. -/
theorem witness_RxClearOutcome : (received.initDone = true ∧ received.RunsThrough ∧
    received.slotStatus received.bufferOut = .complete) ∧
    live.initDone = true ∧ live.RunsThrough ∧ live.slotStatus live.bufferOut ≠ .complete :=
  ⟨⟨rfl, Or.inr rfl, rfl⟩, rfl, Or.inr rfl, by decide⟩

/-- A Free slot, and none. -/
theorem witness_LengthByteReceived : serving.slotStatus serving.bufferIn = .free ∧
    ({ serving with status0 := .complete, status1 := .complete } : State).slotStatus 0 ≠ .free := by decide

/-- The last byte before completion and the completion; the two outcomes at offset 2; the last stored offset and the first dropped one
(V-F5). -/
theorem witness_FrameByteReceived :
    (let s := receiving 5 0 []; s.byteCount < s.totalBytes ∧ ¬ (s.byteCount = 2 ∧ s.chkAcc ^^^ 0x30 ≠ 0xFF)) ∧
    (let s := receiving 6 0xFF []; ¬ s.byteCount < s.totalBytes) ∧
    (let s := receiving 2 0x02 []; s.byteCount < s.totalBytes ∧ s.chkAcc ^^^ 0xFD = 0xFF ∧ s.chkAcc ^^^ 0xFC ≠ 0xFF) ∧
    (let s : State := { receiving 32 0 [] with totalBytes := 35 }; s.byteCount < s.totalBytes ∧ s.byteCount < 3 + s.cfg.capacity) ∧
    (let s : State := { receiving 33 0 [] with totalBytes := 35 }; s.byteCount < s.totalBytes ∧ ¬ s.byteCount < 3 + s.cfg.capacity) := by
  decide

/-- The last payload byte, the trailer byte, and the completion. -/
theorem witness_TransmitStep : ((sending 7).byteAt .txbuf 2).toNat ≤ (sending 7).cfg.capacity ∧
    ((sending 7).byteCount < 5 + ((sending 7).byteAt .txbuf 2).toNat) ∧
    (¬ (sending 8).byteCount < 5 + ((sending 8).byteAt .txbuf 2).toNat ∧ (sending 8).byteCount < (sending 8).totalBytes) ∧
    ¬ (sending 9).byteCount < (sending 9).totalBytes := by decide

/-- Offset 34 is the last byte of TXBUF; a forced length byte of 31 makes offset 35 fault. -/
theorem witness_TransmitFaultsOnlyOutsideTheBuffer :
    (let s : State := { sending 35 with txbuf := [(2, 0x1F)], totalBytes := 37 };
      s.byteCount < s.totalBytes ∧ 5 + s.cfg.capacity ≤ s.byteCount ∧ s.byteCount < 5 + (s.byteAt .txbuf 2).toNat) ∧
    (let s : State := { sending 34 with txbuf := [(2, 0x1F)], totalBytes := 37 };
      s.byteCount < s.totalBytes ∧ ¬ 5 + s.cfg.capacity ≤ s.byteCount) := by decide

/-- V-C2: an accepted and a rejected header. -/
theorem witness_HeaderAcceptedExactlyIfSumIsFF : serving.cfg.Valid ∧ serving.slotStatus serving.bufferIn = .free ∧
    (∃ s : State, s.slotStatus s.bufferIn = .free ∧ s.cfg.Valid ∧ s.byteAnswers = 0x03 :: 0x01 :: 0xFD :: []) ∧
    (0x03 : Byte) ^^^ 0x01 ^^^ 0xFD = 0xFF ∧ (0x03 : Byte) ^^^ 0x01 ^^^ 0xFC ≠ 0xFF :=
  ⟨by decide, by decide, ⟨{ serving with byteAnswers := [0x03, 0x01, 0xFD] }, by decide, by decide, rfl⟩, by decide, by decide⟩

theorem witness_HandlerNeverWrites : ∃ t, exec .hTx (sending 4) = .next t := ⟨_, rfl⟩

theorem witness_BusReadsTakeOneAnswer : ∃ s : State, s.statusAnswers = 0x8000 :: [] ∧ s.byteAnswers = 0x03 :: [] :=
  ⟨{ serving with statusAnswers := [0x8000], byteAnswers := [0x03] }, rfl, rfl⟩

/-- `live` with one command presented. -/
def presented (word : BitVec 20) : State := { live with hostQueue := [⟨word, []⟩] }

theorem witness_StepRunsTheCommand : (presented 0x20000).AtRest ∧ (presented 0x20000).hostQueue = ⟨0x20000, []⟩ :: [] ∧
    decodeHcw ⟨0x20000, []⟩ = .ok .tick := ⟨⟨rfl, rfl⟩, rfl, rfl⟩

theorem witness_StepRunsOneTransition : serving.inHandler = true := rfl

/-- After INIT and before it. -/
theorem witness_ReservedOpAnswersIllegal : (0xA ≤ (0xF#4).toNat ∧ (presented (hcwWord 0xF 0x12 0x34)).AtRest ∧
    (presented (hcwWord 0xF 0x12 0x34)).hostQueue = ⟨hcwWord 0xF 0x12 0x34, []⟩ :: [] ∧
    (presented (hcwWord 0xF 0x12 0x34)).RunsThrough) ∧
    ({ State.reset with hostQueue := [⟨hcwWord 0x0 0 0, []⟩] } : State).AtRest ∧ State.reset.initDone = false :=
  ⟨⟨by decide, ⟨rfl, rfl⟩, rfl, Or.inr rfl⟩, ⟨rfl, rfl⟩, rfl⟩

theorem witness_HandlerEnteredAtAPoint : let s : State := { live with schedule := [some 0] }
    s.initDone = true ∧ s.intMasked = false ∧ s.inHandler = false ∧ s.cfg.polling = false ∧ s.choice = some 0 := by decide

theorem witness_StepResumesMainline : let s : State := { live with mainline := rxClearProgram.drop 2 }
    s.inHandler = false ∧ s.mainline = .point :: [.rxClearFlip, .raise .ok] := ⟨rfl, rfl⟩

/-- With an invocation started, and without. -/
theorem witness_IdleStep : (live.AtRest ∧ live.hostQueue = [] ∧ live.choice = none) ∧
    let s : State := { live with schedule := [some 0] }
    s.AtRest ∧ s.hostQueue = [] ∧ s.choice = some 0 ∧ s.initDone = true ∧ s.intMasked = false ∧ s.cfg.polling = false :=
  ⟨⟨⟨rfl, rfl⟩, rfl, rfl⟩, ⟨rfl, rfl⟩, rfl, rfl, rfl, rfl, rfl⟩

theorem witness_HandlerIsAtomic : (sending 4).inHandler = true ∧
    ∃ t, step { sending 4 with statusAnswers := [0x8000] } = .next t := ⟨rfl, _, rfl⟩

theorem witness_MainlineWriteRights : ∃ t, exec .rxClear received = .next t := ⟨_, rfl⟩

theorem witness_steps : ∃ t, step { presented 0x20000 with statusAnswers := [0x8000] } = .next t := ⟨_, rfl⟩

/-- An invocation in progress after INIT, with nothing received or queued, meets the invariant. -/
theorem witness_invariant : Inv { serving with statusAnswers := [0x8000] } ∧
    ∃ t, step { serving with statusAnswers := [0x8000] } = .next t := by
  refine ⟨⟨by decide, ⟨by decide, by decide, by decide, by decide, by decide⟩, ⟨?_, ?_⟩,
    ⟨nofun, nofun, nofun, nofun⟩, ⟨nofun, nofun, nofun, nofun, nofun, nofun⟩, ⟨by decide, by decide⟩,
    ⟨fun _ => rfl, nofun, fun _ => ⟨rfl, rfl⟩, ⟨false, trivial, nofun⟩⟩⟩, ⟨_, rfl⟩⟩
  · intro sp
    cases sp <;> decide
  · intro sp c hc
    revert c
    cases sp <;> decide

theorem witness_EveryReachableStateIsSound : Config.ref.Valid ∧ Reachable Config.ref { State.resetWith Config.ref with
    hostQueue := [⟨0x10000, []⟩], statusAnswers := [], byteAnswers := [], schedule := [] } :=
  ⟨by decide, Reachable.reset ..⟩

/-- P1, steps 8 to 17. -/
theorem witness_TransmissionOnTheBus : let s : State := { sending 0 with statusAnswers := List.replicate 10 0x8000 }
    s.cfg.Valid ∧ s.inHandler = true ∧ s.protocolState = .transmitting ∧ s.byteCount = 0 ∧
    s.totalBytes = (s.byteAt .txbuf 2).toNat + (2 + 3 + s.cfg.trailerLen) ∧ (s.byteAt .txbuf 2).toNat ≤ s.cfg.capacity ∧
    s.statusAnswers = List.replicate 10 0x8000 ++ [] ∧ (List.replicate 10 0x8000).length = s.totalBytes + 1 ∧
    ∀ w ∈ List.replicate 10 0x8000, (w % 2 ^ s.cfg.statusW) &&& s.cfg.readyMask ≠ 0 := by decide

/-- P2, steps 1 to 7. -/
theorem witness_RoundTrip : let s : State := { serving with
      byteAnswers := [0x03, 0x01, 0xFD, 0x10, 0x20, 0x30, 0xAA], statusAnswers := List.replicate 7 0x8000 }
    s.cfg.Valid ∧ s.inHandler = true ∧ s.protocolState = .receiveIdle ∧ s.slotStatus s.bufferIn = .free ∧
    [0x10, 0x20, 0x30].length = (0x03 : Byte).toNat ∧ (0x03 : Byte).toNat ≤ s.cfg.capacity ∧
    s.byteAnswers = [0x03, 0x01, 0x03 ^^^ 0x01 ^^^ 0xFF] ++ [0x10, 0x20, 0x30] ++
      List.replicate s.cfg.trailerLen s.cfg.trailerByte ++ [] ∧
    s.statusAnswers = List.replicate 7 0x8000 ++ [] ∧
    (List.replicate 7 0x8000).length = (0x03 : Byte).toNat + s.cfg.rxHeaderOverhead + 1 ∧
    ∀ w ∈ List.replicate 7 0x8000, (w % 2 ^ s.cfg.statusW) &&& s.cfg.readyMask ≠ 0 := by decide

/-- V-H1. -/
theorem witness_CheckThenActWindow : let s : State := { queued with
      schedule := [some 1, none], byteAnswers := [0x02], statusAnswers := [0x8000, 0x0000, 0x0000] }
    s.AtRest ∧ s.initDone = true ∧ s.intMasked = false ∧ s.cfg.polling = false ∧ s.cfg.rxOnly = false ∧ s.cfg.caEnabled = true ∧
    s.protocolState = .receiveIdle ∧ s.slotStatus s.bufferIn = .free ∧ s.txRequest = .occupied ∧ s.freeCount = 0 ∧
    s.schedule = some 1 :: none :: [] ∧ s.byteAnswers = 0x02 :: [] ∧ s.statusAnswers = 0x8000 :: 0x0000 :: 0x0000 :: [] ∧
    (0x8000 % 2 ^ s.cfg.statusW) &&& s.cfg.readyMask ≠ 0 ∧ (0x0000 % 2 ^ s.cfg.statusW) &&& s.cfg.readyMask = 0 ∧
    (0x0000 % 2 ^ s.cfg.statusW) &&& s.cfg.carrierMask = 0 := by decide

/-- With `witness_invariant`: an invocation in progress, and a Chip that answers ready. -/
theorem witness_StuckReadyKeepsTheHandler : let s : State := { serving with statusAnswers := [0x8000] }
    s.inHandler = true ∧ s.statusAnswers = [0x8000] ++ [] ∧
    ∀ w ∈ [0x8000], (w % 2 ^ s.cfg.statusW) &&& s.cfg.readyMask ≠ 0 := by decide

end Sys2Proof.Tests
end

section
/-! The configuration is constant (rules R8, R29): each shared operation keeps it, hence each instruction, hence each step. -/

namespace Sys2Proof.Machine

open Sys2Proof

/-! ### The operations of the Handler and of INIT -/

@[simp] theorem State.completeReception_cfg (s : State) : s.completeReception.cfg = s.cfg := by
  simp [State.completeReception]

@[simp] theorem State.acceptByte_cfg (s : State) (b : Byte) : (s.acceptByte b).cfg = s.cfg := by
  simp only [State.acceptByte]
  split <;> simp

@[simp] theorem State.receiveLength_cfg (s : State) : s.receiveLength.cfg = s.cfg := by
  simp only [State.receiveLength]
  split <;> simp [State.seedReception]

@[simp] theorem State.receiveByte_cfg (s : State) : s.receiveByte.cfg = s.cfg := by
  simp only [State.receiveByte]
  split_ifs <;> simp

@[simp] theorem State.completeTransmission_cfg (s : State) : s.completeTransmission.cfg = s.cfg := by
  simp [State.completeTransmission]

@[simp] theorem State.bringUp_cfg (s : State) : s.bringUp.cfg = s.cfg := by
  simp [State.bringUp, State.resetRegisters, State.writeConfig_eq]

/-! ### A stretch of Mainline -/

/-- A run of micro-steps, cut or not, keeps the configuration. -/
theorem runMicros_cfg {c : Option Nat} {ms : List Micro} {s t : State} (h : runMicros c ms s = .next t) :
    t.cfg = s.cfg := by
  refine runMicros_next (P := fun _ u => u.cfg = s.cfg) (Q := fun u => u.cfg = s.cfg) ?_ ?_ ?_ ?_ rfl h
  · exact fun m ms u v hu hm => (microStep_fixed (.inl hm)).1.trans hu
  · exact fun m ms u v hu hm => (microStep_fixed (.inr hm)).1.trans hu
  · exact fun u hu => hu
  · exact fun ms u hu _ => hu

theorem runMainline_cfg {ms : List Micro} {s t : State} (h : runMainline ms s = .next t) : t.cfg = s.cfg :=
  (runMicros_cfg h).trans s.opStart_cfg

theorem hostOperation_cfg {ms : List Micro} {s t : State} (h : hostOperation ms s = .next t) : t.cfg = s.cfg := by
  unfold hostOperation at h
  split at h
  · exact runMainline_cfg h
  · cases h

theorem runIdle_cfg {s t : State} (h : runIdle s = .next t) : t.cfg = s.cfg := by
  unfold runIdle at h
  split at h <;> cases h <;> simp

/-! ### Instructions and steps -/

theorem execInit_cfg {s t : State} (h : execInit s = .next t) : t.cfg = s.cfg := by
  unfold execInit at h
  split at h <;> cases h
  simp

theorem execPoll_cfg {s t : State} (h : execPoll s = .next t) : t.cfg = s.cfg := by
  unfold execPoll at h
  split at h
  · split at h <;> cases h
    simp
  · exact hostOperation_cfg h

theorem execHTx_cfg {s t : State} (h : execHTx s = .next t) : t.cfg = s.cfg := by
  unfold execHTx at h
  split at h
  · split at h <;> cases h
    simp
  · cases h
    simp

/-- Every instruction keeps the configuration: INIT, POLL and H_TX by their own lemmas, the other host operations as stretches of
Mainline, the other transitions and the bus transactions because they answer the state of one named operation. -/
theorem exec_cfg {i : Instr} {s t : State} (h : exec i s = .next t) : t.cfg = s.cfg := by
  cases i with
  | init => exact execInit_cfg h
  | poll => exact execPoll_cfg h
  | tick | enqueue | rxStatus | rxLen | rxType | rxData | rxClear => exact hostOperation_cfg h
  | hTx => exact execHTx_cfg h
  | hRxIdle => cases h; exact s.receiveLength_cfg
  | hRxActive => cases h; exact s.receiveByte_cfg
  | rdStatus => cases h; exact s.rdStatus_cfg
  | rdByte => cases h; exact s.rdByte_cfg
  | hNone | hRsvd | wrByte | modeTx | modeRx | queueClear | queueArm | wrCfg => cases h; rfl

theorem runCommand_cfg {c : HostCommand} {s t : State} (h : runCommand c s = .next t) : t.cfg = s.cfg := by
  unfold runCommand at h
  split at h
  · exact exec_cfg h
  · exact runMainline_cfg h
  · cases h

theorem runHost_cfg {s t : State} (h : runHost s = .next t) : t.cfg = s.cfg := by
  unfold runHost at h
  split at h
  · exact runMainline_cfg h
  · exact (runCommand_cfg h :)
  · exact runIdle_cfg h

theorem runHandler_cfg {s t : State} (h : runHandler s = .next t) : t.cfg = s.cfg :=
  (exec_cfg h).trans s.rdStatus_cfg

theorem step_cfg {s t : State} (h : step s = .next t) : t.cfg = s.cfg := by
  unfold step at h
  split at h
  · exact runHandler_cfg h
  · exact runHost_cfg h

/-- Settles O46: in both contexts a step is one instruction or one stretch of Mainline, and both keep the configuration. -/
theorem configurationIsConstant : Obligations.ConfigurationIsConstant :=
  fun _ _ => step_cfg

end Sys2Proof.Machine
end

section
/-! What the invariant reads: it does not see the inputs and the outputs, and each of its parts speaks of a few fields only. -/

namespace Sys2Proof.Machine

open Sys2Proof

/-! ### Inputs and outputs -/

/-- The state with its inputs and outputs blanked. -/
def State.registers (s : State) : State :=
  { s with hostQueue := [], statusAnswers := [], byteAnswers := [], schedule := [], draws := 0, trace := [], responses := [] }

theorem State.registers_rdStatus (s : State) : s.rdStatus.registers = s.registers := by
  rw [State.rdStatus_eq]
  rfl

theorem State.registers_rdByte (s : State) : s.rdByte.registers = s.registers := by
  rw [State.rdByte_eq]
  rfl

/-! ### The parts of the invariant -/

theorem RegsInv.frame {s t : State} (h : RegsInv s) (hcfg : t.cfg = s.cfg := by simp)
    (hps : t.protocolState = s.protocolState := by simp) (htx : t.txRequest = s.txRequest := by simp)
    (h0 : t.status0 = s.status0 := by simp) (h1 : t.status1 = s.status1 := by simp)
    (hfc : t.freeCount = s.freeCount := by simp) (hbc : t.byteCount = s.byteCount := by simp)
    (htb : t.totalBytes = s.totalBytes := by simp) : RegsInv t := by
  obtain ⟨hp, ht, hs, hf, hc⟩ := h
  constructor <;> simp_all [State.slotStatus]

theorem BuffersInv.frame {s t : State} (h : BuffersInv s) (hcfg : t.cfg = s.cfg := by simp)
    (hb : t.txbuf = s.txbuf := by simp) (h0 : t.raw0 = s.raw0 := by simp) (h1 : t.raw1 = s.raw1 := by simp) : BuffersInv t := by
  have hmem (sp : Space) : t.mem sp = s.mem sp := by cases sp <;> assumption
  have hsize (sp : Space) : t.size sp = s.size sp := by cases sp <;> simp [State.size, hcfg]
  exact ⟨fun sp => hmem sp ▸ h.canonical sp, fun sp => hmem sp ▸ hsize sp ▸ h.inside sp⟩

theorem SendInv.frame {s t : State} (h : SendInv s) (hcfg : t.cfg = s.cfg := by simp)
    (hps : t.protocolState = s.protocolState := by simp) (htx : t.txRequest = s.txRequest := by simp)
    (hbc : t.byteCount = s.byteCount := by simp) (htb : t.totalBytes = s.totalBytes := by simp)
    (hb : t.byteAt .txbuf 2 = s.byteAt .txbuf 2 := by rfl) : SendInv t := by
  obtain ⟨hq, hc, ht, hl⟩ := h
  constructor <;> simp_all

theorem SlotsInv.frame {s t : State} (h : SlotsInv s) (hin : t.bufferIn = s.bufferIn := by simp)
    (hout : t.outIndex = s.outIndex := by rfl) (h0 : t.status0 = s.status0 := by simp) (h1 : t.status1 = s.status1 := by simp)
    (hb : ∀ k n, t.slotByte k n = s.slotByte k n := by intros; rfl) : SlotsInv t := by
  obtain ⟨hr, hc⟩ := h
  constructor <;> simp_all [State.slotStatus, State.headerSum]

theorem RecvInv.frame {s t : State} (h : RecvInv s) (hcfg : t.cfg = s.cfg := by simp)
    (hps : t.protocolState = s.protocolState := by simp) (hbc : t.byteCount = s.byteCount := by simp)
    (htb : t.totalBytes = s.totalBytes := by simp) (hin : t.bufferIn = s.bufferIn := by simp)
    (hslot : s.slotStatus s.bufferIn = .free → t.slotStatus s.bufferIn = .free := by exact id) (hchk : t.chkAcc = s.chkAcc := by simp)
    (hb : ∀ k n, t.slotByte k n = s.slotByte k n := by intros; rfl) : RecvInv t := by
  obtain ⟨hc, ht, hs, h1, h2, h3⟩ := h
  constructor <;> simp_all [State.headerSum]

theorem RunInv.frame {s t : State} (h : RunInv s) (hcfg : t.cfg = s.cfg := by simp) (hinit : t.initDone = s.initDone := by simp)
    (hmask : t.intMasked = s.intMasked := by simp) (hin : t.inHandler = s.inHandler := by simp)
    (hml : t.mainline = s.mainline := by simp) (htx : t.txRequest = s.txRequest := by simp)
    (hb : ∀ n, t.byteAt .txbuf n = s.byteAt .txbuf n := by intros; rfl) : RunInv t := by
  obtain ⟨hm, hi, hs, hp⟩ := h
  constructor <;> simp_all

/-- The invariant does not see the inputs and the outputs. -/
theorem Inv.of_registers {s t : State} (h : Inv s) (e : t.registers = s.registers) : Inv t := by
  have hs : Inv s.registers := by
    unfold State.registers
    exact ⟨h.cfg, h.regs.frame, h.buffers.frame, h.send.frame, h.recv.frame, h.slots.frame, h.run.frame⟩
  rw [← e, State.registers] at hs
  exact ⟨hs.cfg, hs.regs.frame, hs.buffers.frame, hs.send.frame, hs.recv.frame, hs.slots.frame, hs.run.frame⟩

end Sys2Proof.Machine
end

section
/-! The rules of the Handler: what each update of a transition does to the invariant. An update is followed on the machine brought back
to ReceiveIdle, where the invariant asks nothing of a reception or a transmission in progress; `Inv.of_idle` gives the other
protocol states back. -/

namespace Sys2Proof.Machine

open Sys2Proof

/-! ### The machine brought back to ReceiveIdle -/

/-- The state with its reception or transmission given up. -/
abbrev State.idle (s : State) : State := { s with protocolState := .receiveIdle }

theorem SendInv.of_idle {s : State} (hl : s.txRequest = .occupied → (s.byteAt .txbuf 2).toNat ≤ s.cfg.capacity) :
    SendInv s.idle := ⟨nofun, nofun, nofun, hl⟩

theorem RecvInv.of_idle (s : State) : RecvInv s.idle := ⟨nofun, nofun, nofun, nofun, nofun, nofun⟩

/-- The invariant without what it says of a reception or a transmission in progress. -/
theorem Inv.idle {s : State} (h : Inv s) : Inv s.idle where
  cfg := h.cfg
  regs := ⟨nofun, h.regs.txTagLegal, h.regs.slotTagLegal, h.regs.freeCountBound, h.regs.countersFit⟩
  buffers := h.buffers.frame
  send := .of_idle h.send.length
  recv := .of_idle s
  slots := h.slots.frame
  run := h.run.frame

theorem Inv.of_idle {s : State} (h : Inv s.idle) (hp : s.protocolState ≠ .reserved) (hs : SendInv s) (hr : RecvInv s) : Inv s where
  cfg := h.cfg
  regs := ⟨hp, h.regs.txTagLegal, h.regs.slotTagLegal, h.regs.freeCountBound, h.regs.countersFit⟩
  buffers := h.buffers.frame
  send := hs
  recv := hr
  slots := h.slots.frame
  run := h.run.frame

/-- A machine in ReceiveActive, its reception meeting its part of the invariant. -/
theorem Inv.of_active {s : State} (h : Inv s.idle) (hp : s.protocolState = .receiveActive) (hr : RecvInv s) : Inv s :=
  h.of_idle (by simp [hp]) ⟨by simp [hp], by simp [hp], by simp [hp], h.send.length⟩ hr

/-- A machine in Transmitting, its transmission meeting its part of the invariant. -/
theorem Inv.of_transmitting {s : State} (h : Inv s.idle) (hp : s.protocolState = .transmitting) (hs : SendInv s) : Inv s :=
  h.of_idle (by simp [hp]) hs ⟨by simp [hp], by simp [hp], by simp [hp], by simp [hp], by simp [hp], by simp [hp]⟩

theorem Inv.resetPath {s : State} (h : Inv s.idle) : Inv s.resetPath := h.of_registers rfl

/-! ### Updates -/

/-- Counters of their width, and any accumulator. -/
theorem Inv.setCounters {s : State} (h : Inv s.idle) {n m : Nat} (hn : n < 2 ^ s.cfg.countW) (hm : m < 2 ^ s.cfg.countW)
    (acc : Byte) : Inv { s with byteCount := n, totalBytes := m, chkAcc := acc }.idle where
  cfg := h.cfg
  regs := ⟨nofun, h.regs.txTagLegal, h.regs.slotTagLegal, h.regs.freeCountBound, hn, hm⟩
  buffers := h.buffers.frame
  send := .of_idle h.send.length
  recv := .of_idle _
  slots := h.slots.frame
  run := h.run.frame

/-- The release of the transmit buffer. -/
theorem Inv.releaseTx {s : State} (h : Inv s.idle) : Inv { s with txRequest := .free }.idle where
  cfg := h.cfg
  regs := ⟨nofun, .inl rfl, h.regs.slotTagLegal, h.regs.freeCountBound, h.regs.countersFit⟩
  buffers := h.buffers.frame
  send := .of_idle nofun
  recv := .of_idle _
  slots := h.slots.frame
  run :=
    have ⟨c, hpos, _⟩ := h.run.position
    ⟨h.run.maskHandler, h.run.beforeInit, h.run.syncPattern, c, hpos, fun _ => rfl⟩

/-- A byte write inside a buffer space keeps every buffer canonical and within its bounds. -/
theorem BuffersInv.memWrite {s : State} (h : BuffersInv s) {sp : Space} {a : Nat} (ha : a < s.size sp) (b : Byte) :
    BuffersInv (s.memWrite sp a b) := by
  have hsize (sp' : Space) : (s.memWrite sp a b).size sp' = s.size sp' := by cases sp' <;> simp [State.size]
  constructor <;> intro sp' <;> simp only [hsize, State.mem_memWrite] <;> split
  · exact Memory.wf_set (h.canonical sp) a b
  · exact h.canonical sp'
  · rename_i e
    subst e
    intro c hc
    rcases Memory.mem_set hc with rfl | hc
    · exact ha
    · exact h.inside _ c hc
  · exact h.inside sp'

theorem State.size_slotSpace (s : State) (k : BitVec 1) : s.size (slotSpace k) = 3 + s.cfg.capacity := by
  unfold slotSpace
  split <;> rfl

/-- A byte write into a slot that is not Complete. -/
theorem Inv.memWriteSlot {s : State} (h : Inv s.idle) {k : BitVec 1} {a : Nat} (hk : s.slotStatus k = .free)
    (ha : a < 3 + s.cfg.capacity) (b : Byte) : Inv (s.memWrite (slotSpace k) a b).idle where
  cfg := by simpa using h.cfg
  regs := h.regs.frame
  buffers := (h.buffers.memWrite (sp := slotSpace k) (by simpa [State.size_slotSpace] using ha) b).frame
  send := (SendInv.of_idle h.send.length).frame (hb := s.byteAt_txbuf_memWrite_slot k a b 2)
  recv := .of_idle _
  slots := by
    refine ⟨by simpa [State.outIndex] using h.slots.related, fun j hj => ?_⟩
    have hj' : s.slotStatus j = .complete := by simpa [State.slotStatus] using hj
    have hne : j ≠ k := by rintro rfl; simp [hk] at hj'
    have hb (n : Nat) : (s.memWrite (slotSpace k) a b).slotByte j n = s.slotByte j n := by
      simp [State.slotByte_memWrite_slot, hne]
    have hsum : s.headerSum j = 0xFF := h.slots.completeHeader j hj'
    show (s.memWrite (slotSpace k) a b).headerSum j = 0xFF
    simpa only [State.headerSum, hb] using hsum
  run := h.run.frame (hb := s.byteAt_txbuf_memWrite_slot k a b)

/-- The double buffer when the Free slot at `in` is filled and `in` flips (rule R32 a, b). -/
theorem slotsAgree_fill {i o : BitVec 1} {t0 t1 : Tag} (h : slotsAgree i o t0 t1 = true) (hf : (if i = 0 then t0 else t1) = .free) :
    slotsAgree (i ^^^ 1) o (if i = 0 then .complete else t0) (if i = 0 then t1 else .complete) = true := by
  cases t0 <;> cases t1 <;> revert i o <;> decide

/-- The completion of a reception with an accepted header into the Free slot at `buffer_in`. -/
theorem Inv.fillSlot {s : State} (h : Inv s.idle) (hf : s.slotStatus s.bufferIn = .free) (hsum : s.headerSum s.bufferIn = 0xFF) :
    Inv { s.setSlotStatus s.bufferIn .complete with bufferIn := s.bufferIn ^^^ 1 }.idle where
  cfg := by simpa using h.cfg
  regs := by
    refine ⟨nofun, by simpa using h.regs.txTagLegal, fun k => ?_, by simpa using h.regs.freeCountBound,
      by simpa using h.regs.countersFit⟩
    show (s.setSlotStatus s.bufferIn .complete).slotStatus k = _ ∨ (s.setSlotStatus s.bufferIn .complete).slotStatus k = _
    rw [State.slotStatus_setSlotStatus]
    split
    · exact .inr rfl
    · exact h.regs.slotTagLegal k
  buffers := h.buffers.frame
  send := (SendInv.of_idle h.send.length).frame
    (hb := s.byteAt_setSlotStatus s.bufferIn .complete .txbuf 2)
  recv := .of_idle _
  slots := by
    have hb (k : BitVec 1) : (s.setSlotStatus s.bufferIn .complete).headerSum k = s.headerSum k := by
      simp [State.headerSum, State.slotByte]
    refine ⟨by simpa [State.outIndex] using slotsAgree_fill h.slots.related hf, fun k hk => ?_⟩
    have hk' : (s.setSlotStatus s.bufferIn .complete).slotStatus k = .complete := hk
    show (s.setSlotStatus s.bufferIn .complete).headerSum k = 0xFF
    rw [hb]
    rw [State.slotStatus_setSlotStatus] at hk'
    split at hk'
    · subst k
      exact hsum
    · exact h.slots.completeHeader k hk'
  run := h.run.frame (hb := s.byteAt_setSlotStatus s.bufferIn .complete .txbuf)

/-! ### Entering and leaving the Handler -/

/-- After INIT the source and the Handler may change together. -/
theorem Inv.setHandler {s : State} (h : Inv s) (hi : s.initDone = true) (b : Bool) :
    Inv { s with intMasked := b, inHandler := b } where
  cfg := h.cfg
  regs := h.regs.frame
  buffers := h.buffers.frame
  send := h.send.frame
  recv := h.recv.frame
  slots := h.slots.frame
  run := ⟨fun _ => rfl, fun h0 => absurd (hi.symm.trans h0) (by decide), h.run.syncPattern, h.run.position⟩

theorem Inv.enterHandler {s : State} (h : Inv s) (hi : s.initDone = true) : Inv s.enterHandler :=
  (h.setHandler hi true).of_registers rfl

theorem Inv.leaveHandler {s : State} (h : Inv s) (hi : s.initDone = true) : Inv s.leaveHandler :=
  (h.setHandler hi false).of_registers rfl

/-- Only after INIT does the Handler run. -/
theorem Inv.initDone_of_inHandler {s : State} (h : Inv s) (hh : s.inHandler = true) : s.initDone = true := by
  by_contra hi
  have ⟨_, hin, _⟩ := h.run.beforeInit (by simpa using hi)
  simp [hin] at hh

/-! ### Totals fit the counters -/

theorem Inv.rxTotal_lt {s : State} (h : Inv s) (b : Byte) : rxTotal s.cfg b < 2 ^ s.cfg.countW := by
  obtain ⟨_, _, _, _, _, hw, _⟩ := h.cfg
  have hb : b.toNat < 256 := b.isLt
  unfold rxTotal
  omega

theorem Inv.txTotal_lt {s : State} (h : Inv s) (b : Byte) : txTotal s.cfg b < 2 ^ s.cfg.countW := by
  obtain ⟨_, _, _, _, _, hw, _⟩ := h.cfg
  have hb : b.toNat < 256 := b.isLt
  unfold txTotal
  omega

theorem Inv.three_le_rxTotal {s : State} (h : Inv s) (b : Byte) : 3 ≤ rxTotal s.cfg b := by
  obtain ⟨_, ho, _⟩ := h.cfg
  unfold rxTotal
  omega

/-! ### The transmit sequencer -/

theorem Inv.completeTransmission {s : State} (h : Inv s) : Inv s.completeTransmission :=
  h.idle.releaseTx.of_registers rfl

/-- One more byte of the packet has been sent. -/
theorem Inv.countSent {s : State} (h : Inv s) (hp : s.protocolState = .transmitting) (hlt : s.byteCount < s.totalBytes) :
    Inv { s with byteCount := s.byteCount + 1 } := by
  have ⟨_, ht⟩ := h.regs.countersFit
  refine (h.idle.setCounters (by omega) ht s.chkAcc).of_transmitting hp ?_
  exact ⟨h.send.queued, fun _ => hlt, h.send.total, h.send.length⟩

/-- H_TX keeps the invariant. -/
theorem Inv.execHTx {s t : State} (h : Inv s) (hp : s.protocolState = .transmitting) (ht : execHTx s = .next t) : Inv t := by
  unfold Machine.execHTx at ht
  split at ht
  next hlt =>
    split at ht <;> cases ht
    exact (h.countSent hp hlt).of_registers rfl
  next =>
    cases ht
    exact h.completeTransmission

/-- A byte of a queued packet lies inside TXBUF (rule R41). -/
theorem Inv.txSeq_ne_none {s : State} (h : Inv s) (hp : s.protocolState = .transmitting) (n : Nat) : s.txSeq n ≠ none := by
  have hlen := h.send.length (h.send.queued hp)
  unfold State.txSeq State.memRead
  split
  · rw [if_pos]
    · simp
    · simp only [State.size]
      omega
  · simp

/-- H_TX does not fault. -/
theorem Inv.execHTx_ne_fault {s : State} (h : Inv s) (hp : s.protocolState = .transmitting) (f : Fault) :
    Machine.execHTx s ≠ .fault f := by
  unfold Machine.execHTx
  split
  · split
    · simp
    next hnone => exact absurd hnone (h.txSeq_ne_none hp _)
  · simp

/-! ### The receive framer -/

/-- A reception of which the length byte `b` alone has been taken, into a Free slot. -/
theorem RecvInv.first_byte {s : State} {k : BitVec 1} {b : Byte} (hin : s.bufferIn = k) (hf : s.slotStatus k = .free)
    (hbc : s.byteCount = 1) (htot : s.totalBytes = rxTotal s.cfg b) (hle : 1 ≤ rxTotal s.cfg b) (hchk : s.chkAcc = b)
    (hbyte : s.slotByte k 0 = b) : RecvInv s := by
  subst hin
  constructor <;> intro _ <;> simp [hbc, htot, hle, hf, hchk, hbyte]

/-- The length byte stored in a Free slot begins a reception (rule R88). -/
theorem Inv.beginReception {s : State} (h : Inv s.idle) (hf : s.slotStatus s.bufferIn = .free) {b : Byte} (hbc : s.byteCount = 1)
    (htot : s.totalBytes = rxTotal s.cfg b) (hchk : s.chkAcc = b) :
    Inv { s.memWrite (slotSpace s.bufferIn) 0 b with protocolState := .receiveActive } := by
  have hle : 1 ≤ rxTotal s.cfg b := le_trans (by decide) (h.three_le_rxTotal b)
  refine Inv.of_active (h.memWriteSlot hf (by omega) b) rfl (.first_byte (k := s.bufferIn) (b := b) ?_ ?_ ?_ ?_ ?_ ?_ ?_)
  · exact s.memWrite_bufferIn ..
  · exact (s.slotStatus_memWrite ..).trans hf
  · exact (s.memWrite_byteCount ..).trans hbc
  · simpa using htot
  · simpa using hle
  · exact (s.memWrite_chkAcc ..).trans hchk
  · exact (s.slotByte_memWrite_slot ..).trans (if_pos ⟨rfl, rfl⟩)

/-- The length byte (rule R88). -/
theorem Inv.receiveLength {s : State} (h : Inv s) : Inv s.receiveLength := by
  have hr : Inv s.rdByte := h.of_registers s.registers_rdByte
  have hlt := hr.rxTotal_lt s.rxByte
  have hge := hr.three_le_rxTotal s.rxByte
  have hseed : Inv (s.rdByte.seedReception s.rxByte).idle := hr.idle.setCounters (by omega) hlt s.rxByte
  simp only [State.receiveLength]
  split
  next hfree => exact hseed.beginReception hfree rfl rfl rfl
  next => exact hseed.resetPath

/-- What the acceptance of a byte leaves: the accumulator has it, and only the slots may have changed otherwise (rule R89). -/
theorem State.acceptByte_eq (s : State) (b : Byte) : s.acceptByte b = { s with
    chkAcc := s.chkAcc ^^^ b, raw0 := (s.acceptByte b).raw0, raw1 := (s.acceptByte b).raw1 } := by
  simp only [State.acceptByte]
  split
  · unfold slotSpace
    split <;> rfl
  · rfl

@[simp] theorem State.acceptByte_byteCount (s : State) (b : Byte) : (s.acceptByte b).byteCount = s.byteCount := by
  rw [State.acceptByte_eq]

@[simp] theorem State.acceptByte_totalBytes (s : State) (b : Byte) : (s.acceptByte b).totalBytes = s.totalBytes := by
  rw [State.acceptByte_eq]

@[simp] theorem State.acceptByte_protocolState (s : State) (b : Byte) : (s.acceptByte b).protocolState = s.protocolState := by
  rw [State.acceptByte_eq]

@[simp] theorem State.acceptByte_bufferIn (s : State) (b : Byte) : (s.acceptByte b).bufferIn = s.bufferIn := by
  rw [State.acceptByte_eq]

@[simp] theorem State.acceptByte_chkAcc (s : State) (b : Byte) : (s.acceptByte b).chkAcc = s.chkAcc ^^^ b := by
  rw [State.acceptByte_eq]

@[simp] theorem State.acceptByte_slotStatus (s : State) (b : Byte) (k : BitVec 1) : (s.acceptByte b).slotStatus k = s.slotStatus k := by
  rw [State.acceptByte_eq]
  rfl

theorem Inv.acceptByte {s : State} (h : Inv s) (hf : s.slotStatus s.bufferIn = .free) (b : Byte) : Inv (s.acceptByte b).idle := by
  obtain ⟨hbc, htb⟩ := h.regs.countersFit
  have hsum : Inv { s with chkAcc := s.chkAcc ^^^ b }.idle := h.idle.setCounters hbc htb _
  simp only [State.acceptByte]
  split
  next hlt => exact hsum.memWriteSlot hf hlt b
  next => exact hsum

/-- One more byte `b` of a reception taken into the slot, the accumulator and the count; at offset 2 it must end a header whose sum
is 0xFF. -/
theorem RecvInv.next {s t : State} (h : RecvInv s) (hp : s.protocolState = .receiveActive) (hlt : s.byteCount < s.totalBytes) {b : Byte}
    (hsum : s.byteCount = 2 → s.chkAcc ^^^ b = 0xFF) (hcfg : t.cfg = s.cfg) (hbc : t.byteCount = s.byteCount + 1)
    (htb : t.totalBytes = s.totalBytes) (hin : t.bufferIn = s.bufferIn) (hslot : t.slotStatus s.bufferIn = s.slotStatus s.bufferIn)
    (hchk : t.chkAcc = s.chkAcc ^^^ b) (hbyte : ∀ n, t.slotByte s.bufferIn n =
      if s.byteCount < 3 + s.cfg.capacity ∧ n = s.byteCount then b else s.slotByte s.bufferIn n) : RecvInv t := by
  have hpos := (h.count hp).1
  constructor <;> intro _ <;> simp only [hbc, htb, hin, hcfg, hslot, hchk, hbyte, State.headerSum]
  case count => omega
  case total =>
    rw [if_neg (by omega)]
    exact h.total hp
  case slotFree => exact h.slotFree hp
  case first =>
    intro hn
    omega
  case second =>
    intro hn
    have hone : s.byteCount = 1 := by omega
    rw [if_neg (by omega), if_pos (by omega), h.first hp hone]
  case header =>
    intro hn
    by_cases htwo : s.byteCount = 2
    · rw [if_neg (by omega), if_neg (by omega), if_pos (by omega), ← h.second hp htwo]
      exact hsum htwo
    · rw [if_neg (by omega), if_neg (by omega), if_neg (by omega)]
      exact h.header hp (by omega)

/-- A frame byte (rule R89). -/
theorem Inv.receiveByte {s : State} (h : Inv s) (hp : s.protocolState = .receiveActive) : Inv s.receiveByte := by
  have hr : Inv s.rdByte := h.of_registers s.registers_rdByte
  have hpr : s.rdByte.protocolState = .receiveActive := s.rdByte_protocolState.trans hp
  have hfree := hr.recv.slotFree hpr
  have hge := hr.three_le_rxTotal (s.rdByte.slotByte s.rdByte.bufferIn 0)
  have htot := hr.recv.total hpr
  have ⟨_, htb⟩ := hr.regs.countersFit
  have hacc := hr.acceptByte hfree s.rxByte
  simp only [State.receiveByte]
  generalize s.rdByte = r at *
  split_ifs with hlt hbad
  · exact hacc.resetPath
  · have hcount : (r.acceptByte s.rxByte).byteCount + 1 < 2 ^ (r.acceptByte s.rxByte).cfg.countW := by
      rw [State.acceptByte_byteCount, State.acceptByte_cfg]
      omega
    refine (hacc.setCounters hcount (by simpa using htb) _).of_active (by simpa using hpr) ?_
    have hbyte (n : Nat) := r.slotByte_acceptByte s.rxByte r.bufferIn n
    simp only [true_and] at hbyte
    exact hr.recv.next hpr hlt (by simpa using hbad) (r.acceptByte_cfg _) (congrArg (· + 1) (r.acceptByte_byteCount _))
      (r.acceptByte_totalBytes _) (r.acceptByte_bufferIn _) (r.acceptByte_slotStatus _ _) (r.acceptByte_chkAcc _) hbyte
  · exact (hr.idle.fillSlot hfree (hr.recv.header hpr (by omega))).resetPath

end Sys2Proof.Machine
end

section
/-! The program of every host operation: one list of micro-steps each, fit to run from its start (rules R100, R110, R113 to R122). -/

namespace Sys2Proof.Machine

open Sys2Proof

/-- The host operations other than INIT. -/
def IsMainlineOp (i : Instr) : Prop :=
  i = .tick ∨ (∃ t n p, i = .enqueue t n p) ∨ i = .rxStatus ∨ i = .rxLen ∨ i = .rxType ∨ (∃ k, i = .rxData k) ∨ i = .rxClear ∨
    i = .poll

/-- The micro-steps of a host operation other than INIT; for POLL, those of an interrupt build. -/
def hostProgram (cfg : Config) : Instr → List Micro
  | .tick => if cfg.rxOnly then illegalProgram else tickProgram cfg
  | .enqueue typ len payload => if cfg.rxOnly then illegalProgram else enqueueProgram typ len payload
  | .rxStatus => [.point, .rxStatus]
  | .rxLen => [.point, .rxLen]
  | .rxType => [.point, .rxType]
  | .rxData index => [.point, .rxData index]
  | .rxClear => rxClearProgram
  | _ => illegalProgram

/-- POLL in a polling build: the Handler entered, the response due (rule R122). -/
def State.polled (s : State) : State := { s with mainline := [.raise .ok] }.enterHandler

/-- A host operation other than INIT is refused before INIT; else it is the stretch of its program or, in a polling build, POLL. -/
theorem exec_mainlineOp {i : Instr} (hi : IsMainlineOp i) (s : State) : exec i s =
    if s.initDone then
      if i = .poll ∧ s.cfg.polling = true then .next s.polled else runMainline (hostProgram s.cfg i) s
    else .refused .beforeInit := by
  rcases hi with rfl | ⟨_, _, _, rfl⟩ | rfl | rfl | rfl | ⟨_, rfl⟩ | rfl | rfl
  case inr.inr.inr.inr.inr.inr.inr =>
    simp only [exec, execPoll, hostOperation, true_and]
    split_ifs <;> rfl
  all_goals
    rw [if_neg (by simp : ¬ (_ ∧ _))]
    rfl

/-- A host command is INIT or another host operation (rule R61). -/
theorem decodeHcw_mainlineOp {c : HostCommand} {i : Instr} (h : decodeHcw c = .ok i) : i = .init ∨ IsMainlineOp i := by
  unfold decodeHcw at h
  split at h
  case h_3 => split at h <;> cases h; simp [IsMainlineOp]
  all_goals cases h <;> simp [IsMainlineOp]

/-! ### No program flips `buffer_out` before its tag is free -/

theorem flipDue_copyProgram (bs : List Byte) (off : Nat) (ms : List Micro) :
    flipDue (copyProgram off bs ++ ms) = flipDue ms := by
  induction bs generalizing off with
  | nil => rfl
  | cons b bs ih => exact ih (off + 1)

theorem flipDue_enqueueProgram (typ len : Byte) (payload : List Byte) : flipDue (enqueueProgram typ len payload) = false := by
  simp only [enqueueProgram, List.append_assoc]
  exact flipDue_copyProgram ..

theorem flipDue_tickProgram (cfg : Config) : flipDue (tickProgram cfg) = false := by
  unfold tickProgram
  split <;> rfl

/-! ### Every program is fit to run -/

/-- The payload copy stays on the payload of TXBUF and leaves the length byte (rule R110). -/
theorem positionOk_copyProgram {cap off : Nat} {l : Byte} {bs : List Byte} {ms : List Micro} (h2 : 2 < off)
    (hle : off + bs.length ≤ 5 + cap) (h : positionOk cap true l ms) : positionOk cap true l (copyProgram off bs ++ ms) := by
  induction bs generalizing off with
  | nil => exact h
  | cons b bs ih =>
    rw [List.length_cons] at hle
    refine ⟨rfl, by omega, by omega, ?_⟩
    rw [if_neg (by omega)]
    exact ih (by omega) (by omega)

theorem positionOk_enqueueProgram (cap : Nat) (l typ len : Byte) (payload : List Byte) :
    positionOk cap false l (enqueueProgram typ len payload) := by
  simp only [enqueueProgram, List.append_assoc]
  refine ⟨flipDue_copyProgram .., fun hlen => positionOk_copyProgram (by decide) ?_ ?_⟩
  · rw [List.length_take]
    omega
  · refine ⟨rfl, by decide, by omega, rfl, by decide, by omega, rfl, by decide, by omega, rfl, hlen, rfl⟩

theorem positionOk_tickProgram (cap : Nat) (l : Byte) (cfg : Config) : positionOk cap false l (tickProgram cfg) := by
  unfold tickProgram
  split <;> simp [positionOk, flipDue]

theorem hostProgram_fit (cap : Nat) (l : Byte) (cfg : Config) (i : Instr) :
    positionOk cap false l (hostProgram cfg i) ∧ flipDue (hostProgram cfg i) = false := by
  have hillegal : positionOk cap false l illegalProgram ∧ flipDue illegalProgram = false := ⟨rfl, rfl⟩
  cases i with
  | tick =>
    simp only [hostProgram]
    split
    · exact hillegal
    · exact ⟨positionOk_tickProgram .., flipDue_tickProgram _⟩
  | enqueue typ len payload =>
    simp only [hostProgram]
    split
    · exact hillegal
    · exact ⟨positionOk_enqueueProgram .., flipDue_enqueueProgram ..⟩
  | rxClear => exact ⟨⟨rfl, rfl, rfl⟩, rfl⟩
  | rxStatus | rxLen | rxType | rxData => exact ⟨rfl, rfl⟩
  | _ => exact hillegal

end Sys2Proof.Machine
end

section
/-! A stretch of Mainline keeps the invariant: each micro-step hands it on to what is left to run (rules R48, R49, R137). -/

namespace Sys2Proof.Machine

open Sys2Proof

/-- The state with another rest of the operation in progress. -/
abbrev State.withRest (s : State) (ms : List Micro) : State := { s with mainline := ms }

/-- What `RunInv` asks of the rest of the operation in progress, of any rest `ms`. -/
abbrev State.FitToRun (s : State) (ms : List Micro) : Prop :=
  ∃ c, positionOk s.cfg.capacity c (s.byteAt .txbuf 2) ms ∧ (c = true → s.txRequest = .free)

/-- The invariant inside a stretch of Mainline of which `ms` is left to run: were the stretch suspended here, the machine's invariant
would hold. -/
structure StretchInv (ms : List Micro) (s : State) : Prop where
  inv : Inv (s.withRest ms)
  live : s.initDone = true
  outside : s.inHandler = false
  rest : s.mainline = []

/-! ### Going on without a write -/

theorem RunInv.withRest {s : State} (h : RunInv s) (hi : s.initDone = true) {ms : List Micro}
    (hpos : s.FitToRun ms) : RunInv (s.withRest ms) :=
  ⟨h.maskHandler, fun h0 => absurd (hi.symm.trans h0) (by decide), h.syncPattern, hpos⟩

/-- What is left to run may be replaced by something fit to run, with the same flip due. -/
theorem Inv.setRest {s : State} (h : Inv s) (hi : s.initDone = true) {ms : List Micro} (hflip : flipDue ms = flipDue s.mainline)
    (hpos : s.FitToRun ms) : Inv (s.withRest ms) where
  cfg := h.cfg
  regs := h.regs.frame
  buffers := h.buffers.frame
  send := h.send.frame
  recv := h.recv.frame
  slots := h.slots.frame (hout := by simp [State.outIndex, hflip])
  run := h.run.withRest hi hpos

theorem StretchInv.unmasked {ms : List Micro} {s : State} (h : StretchInv ms s) : s.intMasked = false :=
  (h.inv.run.maskHandler h.live).trans h.outside

theorem StretchInv.of_registers {ms : List Micro} {s t : State} (h : StretchInv ms s) (e : t.registers = s.registers) :
    StretchInv ms t where
  inv := h.inv.of_registers (congrArg (State.withRest · ms) e)
  live := (congrArg State.initDone e :).trans h.live
  outside := (congrArg State.inHandler e :).trans h.outside
  rest := (congrArg State.mainline e :).trans h.rest

/-- A micro-step that writes nothing. -/
theorem StretchInv.pass {m : Micro} {ms : List Micro} {s : State} (h : StretchInv (m :: ms) s)
    (hflip : flipDue ms = flipDue (m :: ms))
    (hpos : s.FitToRun ms) : StretchInv ms s :=
  ⟨h.inv.setRest h.live hflip hpos, h.live, h.outside, h.rest⟩

/-- Where no flip is due the operation may end. -/
theorem StretchInv.finish {ms : List Micro} {s : State} (h : StretchInv ms s) (hflip : flipDue ms = false) : Inv s := by
  have hnil : Inv (s.withRest []) := h.inv.setRest h.live hflip.symm ⟨false, trivial, nofun⟩
  rwa [State.withRest, ← h.rest] at hnil

/-! ### The writes of Mainline -/

/-- The carrier sense leaves the registers: the source is unmasked before and after (rule R102). -/
theorem State.registers_senseCarrier {s : State} (h : s.intMasked = false) : s.senseCarrier.registers = s.registers := by
  rw [State.senseCarrier_eq, ← h]
  rfl

theorem Inv.setFreeCount {s : State} (h : Inv s) {n : Nat} (hn : n ≤ s.cfg.channelFreeMax) : Inv { s with freeCount := n } where
  cfg := h.cfg
  regs := ⟨h.regs.protocolLegal, h.regs.txTagLegal, h.regs.slotTagLegal, hn, h.regs.countersFit⟩
  buffers := h.buffers.frame
  send := h.send.frame
  recv := h.recv.frame
  slots := h.slots.frame
  run := h.run.frame

/-- The arming of a queued packet (rule R104). -/
theorem Inv.arm {s : State} (h : Inv s) (hq : s.txRequest = .occupied) : Inv { s with
    totalBytes := txTotal s.cfg (s.byteAt .txbuf 2), byteCount := 0, protocolState := .transmitting } :=
  Inv.of_transmitting (h.idle.setCounters (by positivity) (h.txTotal_lt _) s.chkAcc) rfl
    ⟨fun _ => hq, fun _ => Nat.zero_le _, fun _ => rfl, h.send.length⟩

theorem State.byteAt_memWrite_txbuf (s : State) (off : Nat) (b : Byte) (n : Nat) :
    (s.memWrite .txbuf off b).byteAt .txbuf n = if off = n then b else s.byteAt .txbuf n := by
  simp [State.byteAt_memWrite, eq_comm]

/-- A byte stored in TXBUF, nothing being queued: after INIT behind the sync pattern, and what is left to run is fit for the length
byte that TXBUF then holds (rule R110). -/
theorem Inv.storeTx {s : State} (h : Inv s) (hfree : s.txRequest = .free) {off : Nat} {b : Byte} (h2 : s.initDone = true → 2 ≤ off)
    (hoff : off < 5 + s.cfg.capacity)
    (hpos : ∃ c, positionOk s.cfg.capacity c (if off = 2 then b else s.byteAt .txbuf 2) s.mainline) :
    Inv (s.memWrite .txbuf off b) where
  cfg := h.cfg
  regs := h.regs.frame
  buffers := h.buffers.memWrite (sp := .txbuf) hoff b
  send := by
    have hnt : s.protocolState ≠ .transmitting := fun hp => by
      have ho := h.send.queued hp
      simp [hfree] at ho
    refine ⟨fun hp => absurd hp hnt, fun hp => absurd hp hnt, fun hp => absurd hp hnt, fun ho => ?_⟩
    exact absurd (hfree.symm.trans ho) (by decide)
  recv := h.recv.frame (hb := s.slotByte_memWrite_txbuf off b)
  slots := h.slots.frame (hb := s.slotByte_memWrite_txbuf off b)
  run := by
    have ⟨c, hpos⟩ := hpos
    refine ⟨h.run.maskHandler, h.run.beforeInit, fun hi => ?_, c, ?_, fun _ => hfree⟩
    · have := h2 hi
      rw [State.byteAt_memWrite_txbuf, State.byteAt_memWrite_txbuf, if_neg (by omega), if_neg (by omega)]
      exact h.run.syncPattern hi
    · rw [State.byteAt_memWrite_txbuf]
      exact hpos

/-- The packet queued, its length within CAPACITY (rule R110). -/
theorem Inv.queueTx {s : State} (h : Inv s) (hlen : (s.byteAt .txbuf 2).toNat ≤ s.cfg.capacity)
    {ms : List Micro} (hi : s.initDone = true) (hflip : flipDue ms = flipDue s.mainline)
    (hpos : positionOk s.cfg.capacity false (s.byteAt .txbuf 2) ms) : Inv { s.withRest ms with txRequest := .occupied } where
  cfg := h.cfg
  regs := ⟨h.regs.protocolLegal, .inr rfl, h.regs.slotTagLegal, h.regs.freeCountBound, h.regs.countersFit⟩
  buffers := h.buffers.frame
  send := ⟨fun _ => rfl, h.send.count, h.send.total, fun _ => hlen⟩
  recv := h.recv.frame
  slots := h.slots.frame (hout := by simp [State.outIndex, hflip])
  run := ⟨h.run.maskHandler, fun h0 => absurd (hi.symm.trans h0) (by decide), h.run.syncPattern, false, hpos, nofun⟩

theorem State.setSlotStatus_withRest (s : State) (ms : List Micro) (k : BitVec 1) (t : Tag) :
    (s.withRest ms).setSlotStatus k t = (s.setSlotStatus k t).withRest ms := by
  unfold State.setSlotStatus
  split <;> rfl

/-- The double buffer when the Complete slot at `out` is freed and `out` flips (rule R32 a, b). -/
theorem slotsAgree_clear {i o : BitVec 1} {t0 t1 : Tag} (h : slotsAgree i o t0 t1 = true)
    (hc : (if o = 0 then t0 else t1) = .complete) :
    slotsAgree i (o ^^^ 1) (if o = 0 then .free else t0) (if o = 0 then t1 else .free) = true := by
  cases t0 <;> cases t1 <;> revert i o <;> decide

/-- The first write of RX_CLEAR: the tag freed, the flip due (rule R118). -/
theorem Inv.freeSlot {s : State} (h : Inv s) (hc : s.slotStatus s.bufferOut = .complete) {ms : List Micro} (hi : s.initDone = true)
    (hold : flipDue s.mainline = false) (hnew : flipDue ms = true)
    (hpos : s.FitToRun ms) : Inv ((s.setSlotStatus s.bufferOut .free).withRest ms) := by
  have htag (k : BitVec 1) : ((s.setSlotStatus s.bufferOut .free).withRest ms).slotStatus k =
      if k = s.bufferOut then .free else s.slotStatus k := s.slotStatus_setSlotStatus s.bufferOut .free k
  have hbyte (sp : Space) (n : Nat) : ((s.setSlotStatus s.bufferOut .free).withRest ms).byteAt sp n = s.byteAt sp n :=
    s.byteAt_setSlotStatus s.bufferOut .free sp n
  have hrel : slotsAgree s.bufferIn s.bufferOut s.status0 s.status1 = true := by
    simpa [State.outIndex, hold] using h.slots.related
  exact {
    cfg := by simpa using h.cfg
    regs := by
      refine ⟨by simpa using h.regs.protocolLegal, by simpa using h.regs.txTagLegal, fun k => ?_,
        by simpa using h.regs.freeCountBound, by simpa using h.regs.countersFit⟩
      rw [htag]
      split
      · exact .inl rfl
      · exact h.regs.slotTagLegal k
    buffers := h.buffers.frame
    send := h.send.frame (hb := hbyte .txbuf 2)
    recv := by
      refine h.recv.frame (hslot := fun hf => ?_) (hb := fun k => hbyte (slotSpace k))
      rw [htag, hf, ite_self]
    slots := by
      refine ⟨by simpa [State.outIndex, hnew] using slotsAgree_clear hrel hc, fun k hk => ?_⟩
      rw [htag] at hk
      split at hk
      · cases hk
      · simpa only [State.headerSum, State.slotByte, hbyte] using h.slots.completeHeader k hk
    run := (h.run.withRest hi hpos).frame (hb := hbyte .txbuf) }

/-- The second write of RX_CLEAR (rule R118). -/
theorem Inv.flipOut {s : State} (h : Inv s) {ms : List Micro} (hi : s.initDone = true)
    (hold : flipDue s.mainline = true) (hnew : flipDue ms = false)
    (hpos : s.FitToRun ms) : Inv { s.withRest ms with bufferOut := s.bufferOut ^^^ 1 } where
  cfg := h.cfg
  regs := h.regs.frame
  buffers := h.buffers.frame
  send := h.send.frame
  recv := h.recv.frame
  slots := h.slots.frame (hout := by simp [State.outIndex, hold, hnew])
  run := (h.run.withRest hi hpos).frame

/-! ### Every micro-step -/

/-- Whether a micro-step can write a register (rules R100 to R118). -/
def Micro.writes : Micro → Bool
  | .tickSense | .tickCount | .tickArm | .txStore _ _ | .enqTag | .rxClearTag | .rxClearFlip => true
  | .point | .raise _ | .tickIdle | .enqCheck _ | .rxStatus | .rxLen | .rxType | .rxData _ => false

theorem registers_of_readCompleteStep {n : Nat} {s t : State}
    (h : readCompleteStep n s = .go t ∨ readCompleteStep n s = .ended t) : t.registers = s.registers := by
  unfold readCompleteStep at h
  split at h <;> rcases h with h | h <;> cases h <;> rfl

/-- A micro-step that cannot write leaves every register. -/
theorem registers_of_not_writes {m : Micro} (hm : m.writes = false) {s t : State}
    (h : microStep m s = .go t ∨ microStep m s = .ended t) : t.registers = s.registers := by
  cases m
  case point | raise | rxStatus => rcases h with h | h <;> cases h; rfl
  case rxLen | rxType => exact registers_of_readCompleteStep h
  case tickIdle =>
    simp only [microStep, tickIdleStep] at h
    split at h <;> rcases h with h | h <;> cases h <;> rfl
  case enqCheck =>
    simp only [microStep, enqCheckStep] at h
    split_ifs at h <;> rcases h with h | h <;> cases h <;> rfl
  case rxData =>
    simp only [microStep, rxDataStep] at h
    split at h
    · rcases h with h | h <;> cases h
      rfl
    · exact registers_of_readCompleteStep h
  all_goals cases hm

/-- A micro-step after which the operation goes on keeps the invariant of the stretch. -/
theorem StretchInv.microStep_go {m : Micro} {ms : List Micro} {s t : State} (h : StretchInv (m :: ms) s)
    (hm : microStep m s = .go t) : StretchInv ms t := by
  obtain ⟨c, hpos, hc⟩ := h.inv.run.position
  cases m
  case point => exact (h.pass rfl ⟨c, hpos, hc⟩).of_registers (registers_of_not_writes rfl (.inl hm))
  case tickIdle => exact (h.pass rfl ⟨c, hpos.2, hc⟩).of_registers (registers_of_not_writes rfl (.inl hm))
  case enqCheck len =>
    have hfits : s.txRequest = .free ∧ len.toNat ≤ s.cfg.capacity := by
      simp only [microStep, enqCheckStep] at hm
      split_ifs at hm with hfree hlen
      exact ⟨not_not.mp hfree, Nat.le_of_not_lt hlen⟩
    exact (h.pass rfl ⟨true, hpos.2 hfits.2, fun _ => hfits.1⟩).of_registers (registers_of_not_writes rfl (.inl hm))
  case tickSense =>
    simp only [microStep, tickSenseStep] at hm
    split at hm <;> cases hm
    exact (h.pass rfl ⟨c, hpos.2, hc⟩).of_registers (State.registers_senseCarrier h.unmasked)
  case tickCount =>
    simp only [microStep, tickCountStep] at hm
    split at hm <;> cases hm
    exact h.pass rfl ⟨c, hpos.2, hc⟩
  case tickArm =>
    obtain ⟨_, hpos⟩ := hpos
    have hpass := h.pass rfl ⟨c, hpos, hc⟩
    simp only [microStep, tickArmStep] at hm
    split at hm <;> cases hm
    next hq =>
      have harm : StretchInv ms { s with
          totalBytes := txTotal s.cfg (s.byteAt .txbuf 2), byteCount := 0, protocolState := .transmitting } :=
        ⟨hpass.inv.arm hq, h.live, h.outside, h.rest⟩
      refine harm.of_registers ?_
      rw [State.armTransmission_eq, ← h.unmasked]
      rfl
    next => exact hpass
  case txStore off b =>
    obtain ⟨hct, h2, hoff, hpos⟩ := hpos
    simp only [microStep, txStoreStep] at hm
    split at hm <;> cases hm
    subst hct
    have hagain : positionOk s.cfg.capacity true (if off = 2 then b else if off = 2 then b else s.byteAt .txbuf 2) ms := by
      split_ifs at hpos ⊢ <;> exact hpos
    have hstored : StretchInv (.txStore off b :: ms) (s.memWrite .txbuf off b) :=
      ⟨h.inv.storeTx (hc rfl) (fun _ => h2) hoff ⟨true, rfl, h2, hoff, hagain⟩, h.live, h.outside, h.rest⟩
    exact hstored.pass rfl ⟨true, by rw [State.byteAt_memWrite_txbuf]; exact hpos, fun _ => hc rfl⟩
  case enqTag =>
    obtain ⟨_, hlen, hpos⟩ := hpos
    cases hm
    exact ⟨h.inv.queueTx hlen h.live rfl hpos, h.live, h.outside, h.rest⟩
  case rxClearTag =>
    obtain ⟨hflip, hpos⟩ := hpos
    simp only [microStep, rxClearTagStep] at hm
    split at hm <;> cases hm
    next hcomp =>
      have hfreed := h.inv.freeSlot hcomp h.live rfl hflip ⟨c, hpos, hc⟩
      rw [State.setSlotStatus_withRest] at hfreed
      exact ⟨hfreed, by simpa using h.live, by simpa using h.outside, by simpa using h.rest⟩
  case rxClearFlip =>
    obtain ⟨hflip, hpos⟩ := hpos
    cases hm
    exact ⟨h.inv.flipOut h.live rfl hflip ⟨c, hpos, hc⟩, h.live, h.outside, h.rest⟩
  case raise | rxStatus | rxLen | rxType | rxData =>
    cases hpos
    exact (h.pass rfl ⟨false, trivial, nofun⟩).of_registers (registers_of_not_writes rfl (.inl hm))

/-- A micro-step that ends the operation keeps the invariant of the machine: no flip is due there. -/
theorem StretchInv.microStep_ended {m : Micro} {ms : List Micro} {s t : State} (h : StretchInv (m :: ms) s)
    (hm : microStep m s = .ended t) : Inv t := by
  obtain ⟨c, hpos, hc⟩ := h.inv.run.position
  cases m
  case tickIdle | enqCheck => exact (h.finish hpos.1).of_registers (registers_of_not_writes rfl (.inr hm))
  case raise | rxStatus | rxLen | rxType | rxData =>
    cases hpos
    exact (h.finish rfl).of_registers (registers_of_not_writes rfl (.inr hm))
  case tickSense =>
    simp only [microStep, tickSenseStep] at hm
    split at hm <;> cases hm
    refine ((h.finish hpos.1).setFreeCount le_rfl).of_registers ?_
    exact congrArg (fun r : State => { r with freeCount := s.cfg.channelFreeMax }) (State.registers_senseCarrier h.unmasked)
  case tickCount =>
    simp only [microStep, tickCountStep] at hm
    split at hm <;> cases hm
    have hinv := h.finish hpos.1
    exact (hinv.setFreeCount ((Nat.sub_le _ 1).trans hinv.regs.freeCountBound)).of_registers rfl
  case rxClearTag =>
    simp only [microStep, rxClearTagStep] at hm
    split at hm <;> cases hm
    exact (h.finish rfl).of_registers rfl
  case tickArm =>
    simp only [microStep, tickArmStep] at hm
    split at hm <;> cases hm
  case txStore =>
    simp only [microStep, txStoreStep] at hm
    split at hm <;> cases hm
  case point | enqTag | rxClearFlip => cases hm

/-- The one micro-step that can fault is a store outside TXBUF. -/
theorem microStep_bad {m : Micro} {s : State} {f : Fault} (h : microStep m s = .bad f) :
    ∃ off b, m = .txStore off b ∧ s.size .txbuf ≤ off := by
  cases m
  case txStore off b =>
    simp only [microStep, txStoreStep] at h
    split at h
    · cases h
    next hoff => exact ⟨off, b, rfl, Nat.le_of_not_lt hoff⟩
  case point | raise | enqTag | rxStatus | rxClearFlip => cases h
  case tickIdle => simp only [microStep, tickIdleStep] at h; split at h <;> cases h
  case tickSense => simp only [microStep, tickSenseStep] at h; split at h <;> cases h
  case tickCount => simp only [microStep, tickCountStep] at h; split at h <;> cases h
  case tickArm => simp only [microStep, tickArmStep] at h; split at h <;> cases h
  case rxClearTag => simp only [microStep, rxClearTagStep] at h; split at h <;> cases h
  case rxLen | rxType => simp only [microStep, readCompleteStep] at h; split at h <;> cases h
  case enqCheck => simp only [microStep, enqCheckStep] at h; split_ifs at h
  case rxData => simp only [microStep, rxDataStep, readCompleteStep] at h; split_ifs at h

/-- No micro-step faults: the stores of a suspended ENQUEUE fall inside TXBUF (rule R41). -/
theorem StretchInv.microStep_ne_bad {m : Micro} {ms : List Micro} {s : State} (h : StretchInv (m :: ms) s) (f : Fault) :
    microStep m s ≠ .bad f := by
  intro hbad
  obtain ⟨off, b, rfl, hle⟩ := microStep_bad hbad
  obtain ⟨c, ⟨_, _, hoff, _⟩, _⟩ := h.inv.run.position
  exact absurd hoff (Nat.not_lt_of_le hle)

/-! ### A whole stretch -/

/-- A stretch of Mainline keeps the invariant, cut or uncut. -/
theorem StretchInv.runMicros_next {c : Option Nat} {ms : List Micro} {s t : State} (h : StretchInv ms s)
    (ht : runMicros c ms s = .next t) : Inv t :=
  Machine.runMicros_next (P := StretchInv) (Q := Inv) (fun _ _ _ _ => .microStep_go) (fun _ _ _ _ => StretchInv.microStep_ended)
    (fun _ hs => hs.finish rfl) (fun _ _ hs _ => hs.inv.enterHandler hs.live) h ht

theorem StretchInv.runMicros_ne_fault {c : Option Nat} {ms : List Micro} {s : State} (h : StretchInv ms s) (f : Fault) :
    runMicros c ms s ≠ .fault f :=
  runMicros_no_fault (P := StretchInv) (fun _ _ _ _ => .microStep_go) (fun _ _ _ f hs => hs.microStep_ne_bad f) h f

theorem State.registers_opStart (s : State) : s.opStart.registers = s.registers.withRest [] := by
  rw [State.opStart_eq]
  rfl

/-- The rest of the operation in progress, resumed (rule R137). -/
theorem Inv.stretch_resumed {s : State} (h : Inv s) (hh : s.inHandler = false) {m : Micro} {ms : List Micro}
    (hm : s.mainline = m :: ms) : StretchInv (m :: ms) s.opStart := by
  have hi : s.initDone = true := by
    by_contra hi
    have ⟨_, _, hnil⟩ := h.run.beforeInit (by simpa using hi)
    simp [hm] at hnil
  rw [← hm]
  exact ⟨h.of_registers (congrArg (State.withRest · s.mainline) s.registers_opStart), s.opStart_initDone.trans hi,
    s.opStart_inHandler.trans hh, s.opStart_mainline⟩

/-- A host operation begun at rest. -/
theorem Inv.stretch_begun {s : State} (h : Inv s) (hr : s.AtRest) (hi : s.initDone = true) (i : Instr) :
    StretchInv (hostProgram s.cfg i) s.opStart := by
  obtain ⟨hh, hm⟩ := hr
  obtain ⟨hpos, hflip⟩ := hostProgram_fit s.cfg.capacity (s.byteAt .txbuf 2) s.cfg i
  have hbegun : Inv (s.withRest (hostProgram s.cfg i)) := h.setRest hi (by rw [hflip, hm]; rfl) ⟨false, hpos, nofun⟩
  exact ⟨hbegun.of_registers (congrArg (State.withRest · _) s.registers_opStart), s.opStart_initDone.trans hi,
    s.opStart_inHandler.trans hh, s.opStart_mainline⟩

end Sys2Proof.Machine
end

section
/-! The invariant of the machine (rules R31, R32): it holds at reset, every step keeps it, and no step from it faults; hence every
reachable state is sound. -/

namespace Sys2Proof.Machine

open Sys2Proof

/-! ### Hardware reset and INIT -/

/-- Settles O48: part by part, on the literal state. -/
theorem invariantAtReset : Obligations.InvariantAtReset := by
  intro c hc
  have htag (k : BitVec 1) : (State.resetWith c).slotStatus k = .free := ite_self _
  have hmem (sp : Space) : (State.resetWith c).mem sp = [] := by cases sp <;> rfl
  exact {
    cfg := hc
    regs := ⟨nofun, .inl rfl, fun k => .inl (htag k), le_rfl, by simp [State.resetWith]⟩
    buffers := ⟨fun sp => by simp [hmem], fun sp => by simp [hmem]⟩
    send := ⟨nofun, nofun, nofun, nofun⟩
    recv := ⟨nofun, nofun, nofun, nofun, nofun, nofun⟩
    slots := ⟨rfl, fun k hk => by simp [htag] at hk⟩
    run := ⟨nofun, fun _ => ⟨rfl, rfl, rfl⟩, nofun, false, trivial, nofun⟩ }

/-- The registers take their reset values; nothing is left to run (rules R34, R120). -/
theorem Inv.resetRegisters {s : State} (h : Inv s) (hm : s.mainline = []) : Inv s.resetRegisters := by
  have htag (k : BitVec 1) : s.resetRegisters.slotStatus k = .free := ite_self _
  exact {
    cfg := h.cfg
    regs := ⟨nofun, .inl rfl, fun k => .inl (htag k), le_rfl, Nat.mod_lt _ (by positivity), Nat.mod_lt _ (by positivity)⟩
    buffers := ⟨h.buffers.canonical, h.buffers.inside⟩
    send := ⟨nofun, nofun, nofun, nofun⟩
    recv := ⟨nofun, nofun, nofun, nofun, nofun, nofun⟩
    slots := ⟨by simp [State.outIndex, State.resetRegisters, hm, flipDue, slotsAgree], fun k hk => by simp [htag] at hk⟩
    run := ⟨h.run.maskHandler, h.run.beforeInit, h.run.syncPattern, false, hm ▸ trivial, nofun⟩ }

/-- With the sync pattern in TXBUF and nothing running, the machine goes live, the source unmasked (rule R120). -/
theorem Inv.goLive {s : State} (h : Inv s) (hi : s.initDone = false) (h0 : s.byteAt .txbuf 0 = s.cfg.sync0)
    (h1 : s.byteAt .txbuf 1 = s.cfg.sync1) : Inv { s with intMasked := false, initDone := true } where
  cfg := h.cfg
  regs := h.regs.frame
  buffers := h.buffers.frame
  send := h.send.frame
  recv := h.recv.frame
  slots := h.slots.frame
  run :=
    have ⟨_, hh, _⟩ := h.run.beforeInit hi
    ⟨fun _ => hh.symm, nofun, fun _ => ⟨h0, h1⟩, h.run.position⟩

theorem Inv.storeTx_beforeInit {s : State} (h : Inv s) (hi : s.initDone = false) (hfree : s.txRequest = .free) {off : Nat}
    (hoff : off < 5) (b : Byte) : Inv (s.memWrite .txbuf off b) := by
  have ⟨_, _, hm⟩ := h.run.beforeInit hi
  refine h.storeTx hfree (fun hlive => ?_) (by omega) ⟨false, hm ▸ trivial⟩
  simp [hi] at hlive

/-- INIT (rule R120): the registers reset, the sync pattern stored, the source unmasked. -/
theorem Inv.bringUp {s : State} (h : Inv s) (hi : s.initDone = false) : Inv s.bringUp := by
  obtain ⟨hmask, _, hm⟩ := h.run.beforeInit hi
  have hsame : (s.intMask.writeConfig s.cfg.initSeq).registers = s.registers := by
    rw [State.writeConfig_eq, State.intMask, ← hmask]
    rfl
  have hreset : Inv (s.intMask.writeConfig s.cfg.initSeq).resetRegisters :=
    (h.of_registers hsame).resetRegisters ((congrArg State.mainline hsame :).trans hm)
  have hinit : (s.intMask.writeConfig s.cfg.initSeq).initDone = false := (congrArg State.initDone hsame :).trans hi
  have hcfg : (s.intMask.writeConfig s.cfg.initSeq).cfg = s.cfg := (congrArg State.cfg hsame :)
  have hsynced := (hreset.storeTx_beforeInit hinit rfl (off := 0) (by decide) s.cfg.sync0).storeTx_beforeInit hinit rfl (off := 1)
    (by decide) s.cfg.sync1
  refine (hsynced.goLive hinit ?_ ?_).of_registers rfl
  · rw [State.byteAt_memWrite_txbuf, State.byteAt_memWrite_txbuf]
    exact congrArg Config.sync0 hcfg.symm
  · rw [State.byteAt_memWrite_txbuf]
    exact congrArg Config.sync1 hcfg.symm

/-! ### Instructions -/

theorem Inv.execInit {s t : State} (h : Inv s) (ht : execInit s = .next t) : Inv t := by
  unfold Machine.execInit at ht
  split at ht <;> cases ht
  next hi => exact (h.bringUp (by simpa using hi)).of_registers rfl

theorem Inv.polled {s : State} (h : Inv s) (hm : s.mainline = []) (hi : s.initDone = true) : Inv s.polled :=
  Inv.enterHandler (h.setRest hi (by rw [hm]; rfl) ⟨false, rfl, nofun⟩) hi

theorem Inv.exec_mainlineOp {i : Instr} (hop : IsMainlineOp i) {s t : State} (h : Inv s) (hr : s.AtRest)
    (ht : exec i s = .next t) : Inv t := by
  rw [Machine.exec_mainlineOp hop] at ht
  split_ifs at ht with hi
  · cases ht
    exact h.polled hr.2 hi
  · exact (h.stretch_begun hr hi i).runMicros_next ht

theorem illegalCommand_beforeInit {s : State} (hi : s.initDone = false) :
    Machine.illegalCommand s = .next (s.opStart.respond .illegal 0) := by
  have hadm : s.opStart.admitsHandler = false := by simp [State.admitsHandler, hi]
  unfold Machine.illegalCommand runMainline illegalProgram
  rw [runMicros_step (by simp [hadm])]
  simp only [microStep]
  rw [runMicros_step (by simp)]
  rfl

/-- A command word with a reserved `op`, before and after INIT (rule R71 a). -/
theorem Inv.illegalCommand {s t : State} (h : Inv s) (hr : s.AtRest) (ht : illegalCommand s = .next t) : Inv t := by
  by_cases hi : s.initDone = true
  · exact (h.stretch_begun hr hi .poll).runMicros_next ht
  · rw [illegalCommand_beforeInit (by simpa using hi)] at ht
    cases ht
    refine h.of_registers (s.registers_opStart.trans ?_)
    rw [← hr.2]
    rfl

/-- What Mainline does with a presented command (rules R60 to R63, R71). -/
theorem runCommand_cases (c : HostCommand) (s : State) : runCommand c s = execInit s ∨
    (∃ i, IsMainlineOp i ∧ runCommand c s = exec i s) ∨ runCommand c s = Machine.illegalCommand s ∨
    ∃ r, runCommand c s = .refused r := by
  unfold runCommand fetchCommand
  cases hd : decodeHcw c with
  | ok i =>
    rcases decodeHcw_mainlineOp hd with rfl | hi
    · exact .inl rfl
    · exact .inr (.inl ⟨i, hi, rfl⟩)
  | error e =>
    cases e
    · exact .inr (.inr (.inl rfl))
    · exact .inr (.inr (.inr ⟨_, rfl⟩))

theorem Inv.runCommand {c : HostCommand} {s t : State} (h : Inv s) (hr : s.AtRest) (ht : runCommand c s = .next t) : Inv t := by
  obtain hc | ⟨i, hi, hc⟩ | hc | ⟨r, hc⟩ := runCommand_cases c s <;> rw [hc] at ht
  · exact h.execInit ht
  · exact h.exec_mainlineOp hi hr ht
  · exact h.illegalCommand hr ht
  · cases ht

theorem Inv.runIdle {s t : State} (h : Inv s) (hr : s.AtRest) (ht : runIdle s = .next t) : Inv t := by
  have hstart : Inv s.opStart := h.of_registers (s.registers_opStart.trans (by rw [← hr.2]; rfl))
  unfold Machine.runIdle at ht
  split at ht <;> cases ht
  next hadm =>
    simp only [State.admitsHandler, Bool.and_eq_true] at hadm
    exact hstart.enterHandler (by simp [hadm])
  next => exact hstart

/-- One stretch of Mainline. -/
theorem Inv.runHost {s t : State} (h : Inv s) (hh : s.inHandler = false) (ht : runHost s = .next t) : Inv t := by
  unfold Machine.runHost at ht
  split at ht
  next m ms _ hm => exact (h.stretch_resumed hh hm).runMicros_next ht
  next c cs hm _ =>
    have hp : Inv { s with hostQueue := cs } := h.of_registers rfl
    exact hp.runCommand ⟨hh, hm⟩ ht
  next hm _ => exact h.runIdle ⟨hh, hm⟩ ht

/-! ### The Handler -/

/-- The transition the Handler takes goes with the protocol state it finds (rules R66, R67). -/
theorem State.handlerInstr_cases (s : State) : s.handlerInstr = .hNone ∨
    s.protocolState = .receiveIdle ∧ s.handlerInstr = .hRxIdle ∨ s.protocolState = .receiveActive ∧ s.handlerInstr = .hRxActive ∨
    s.protocolState = .transmitting ∧ s.handlerInstr = .hTx ∨ s.protocolState = .reserved ∧ s.handlerInstr = .hRsvd := by
  unfold State.handlerInstr
  cases readyIn s.cfg s.statusWord <;> cases s.protocolState <;> decide

/-- One iteration of the Handler's loop. -/
theorem Inv.runHandler {s t : State} (h : Inv s) (hh : s.inHandler = true) (ht : runHandler s = .next t) : Inv t := by
  have hr : Inv s.rdStatus := h.of_registers s.registers_rdStatus
  unfold Machine.runHandler at ht
  obtain hi | ⟨-, hi⟩ | ⟨hp, hi⟩ | ⟨hp, hi⟩ | ⟨-, hi⟩ := s.handlerInstr_cases <;> rw [hi] at ht
  · cases ht
    exact hr.leaveHandler (hr.initDone_of_inHandler (s.rdStatus_inHandler.trans hh))
  · cases ht
    exact hr.receiveLength
  · cases ht
    exact hr.receiveByte (s.rdStatus_protocolState.trans hp)
  · exact hr.execHTx (s.rdStatus_protocolState.trans hp) ht
  · cases ht
    exact hr.idle.resetPath

/-! ### A step -/

/-- A step of either context keeps the invariant. -/
theorem Inv.step {s t : State} (h : Inv s) (ht : step s = .next t) : Inv t := by
  unfold Machine.step at ht
  split at ht
  next hh => exact h.runHandler hh ht
  next hh => exact h.runHost (by simpa using hh) ht

/-- Settles O49: the Handler's transitions by their rules, a stretch of Mainline by the invariant that each micro-step hands on. -/
theorem invariantKeptByEveryStep : Obligations.InvariantKeptByEveryStep :=
  fun _ _ => Inv.step

/-! ### No step faults -/

theorem Inv.runHandler_ne_fault {s : State} (h : Inv s) (f : Fault) : Machine.runHandler s ≠ .fault f := by
  have hr : Inv s.rdStatus := h.of_registers s.registers_rdStatus
  unfold Machine.runHandler
  obtain hi | ⟨-, hi⟩ | ⟨-, hi⟩ | ⟨hp, hi⟩ | ⟨-, hi⟩ := s.handlerInstr_cases <;> rw [hi]
  case inr.inr.inr.inl => exact hr.execHTx_ne_fault (s.rdStatus_protocolState.trans hp) f
  all_goals nofun

theorem Inv.exec_mainlineOp_ne_fault {i : Instr} (hop : IsMainlineOp i) {s : State} (h : Inv s) (hr : s.AtRest) (f : Fault) :
    exec i s ≠ .fault f := by
  rw [Machine.exec_mainlineOp hop]
  split_ifs with hi
  · nofun
  · exact (h.stretch_begun hr hi i).runMicros_ne_fault f
  · nofun

theorem Inv.runCommand_ne_fault {c : HostCommand} {s : State} (h : Inv s) (hr : s.AtRest) (f : Fault) :
    Machine.runCommand c s ≠ .fault f := by
  obtain hc | ⟨i, hi, hc⟩ | hc | ⟨r, hc⟩ := runCommand_cases c s <;> rw [hc]
  · unfold Machine.execInit
    split <;> nofun
  · exact h.exec_mainlineOp_ne_fault hi hr f
  · by_cases hi : s.initDone = true
    · exact (h.stretch_begun hr hi .poll).runMicros_ne_fault f
    · rw [illegalCommand_beforeInit (by simpa using hi)]
      nofun
  · nofun

theorem Inv.runHost_ne_fault {s : State} (h : Inv s) (hh : s.inHandler = false) (f : Fault) : Machine.runHost s ≠ .fault f := by
  unfold Machine.runHost
  split
  next m ms _ hm => exact (h.stretch_resumed hh hm).runMicros_ne_fault f
  next c cs hm _ =>
    have hp : Inv { s with hostQueue := cs } := h.of_registers rfl
    exact hp.runCommand_ne_fault ⟨hh, hm⟩ f
  next =>
    unfold Machine.runIdle
    split <;> nofun

/-- From a state with the invariant no access falls outside a buffer (rule R41). -/
theorem Inv.step_ne_fault {s : State} (h : Inv s) (f : Fault) : Machine.step s ≠ .fault f := by
  unfold Machine.step
  split
  next => exact h.runHandler_ne_fault f
  next hh => exact h.runHost_ne_fault (by simpa using hh) f

/-! ### Reachable states -/

/-- The invariant holds of every state a run reaches. -/
theorem Reachable.inv {c : Config} {s : State} (hc : c.Valid) (h : Reachable c s) : Inv s := by
  induction h with
  | reset => exact (invariantAtReset c hc).of_registers rfl
  | step _ ht ih => exact ih.step ht

/-- Settles O51: the invariant of every reachable state, read clause by clause. -/
theorem everyReachableStateIsSound : Obligations.EveryReachableStateIsSound := by
  intro c s hc hs
  have h := hs.inv hc
  refine ⟨h.regs.protocolLegal, h.send.queued, h.send.count, fun hp => ?_, fun hm => ?_, h.slots.completeHeader, h.step_ne_fault⟩
  · exact ⟨(h.recv.count hp).1, (h.recv.count hp).2, h.recv.slotFree hp⟩
  · have hout : s.outIndex = s.bufferOut := by simp [State.outIndex, hm, flipDue]
    exact hout ▸ h.slots.related

end Sys2Proof.Machine
end

section
/-! What Mainline may write (rule R33): each micro-step that writes belongs to one host operation, whose right it is. -/

namespace Sys2Proof.Machine

open Sys2Proof

/-- What the host operation `i` may have written between `s` and `t` (rule R33). -/
structure WriteRights (i : Instr) (s t : State) : Prop where
  bufferIn : t.bufferIn = s.bufferIn
  chkAcc : t.chkAcc = s.chkAcc
  raw0 : t.raw0 = s.raw0
  raw1 : t.raw1 = s.raw1
  protocol : t.protocolState = s.protocolState ∧ t.byteCount = s.byteCount ∧ t.totalBytes = s.totalBytes ∨
    i = .tick ∧ t.protocolState = .transmitting ∧ t.byteCount = 0
  freeCount : t.freeCount = s.freeCount ∨ i = .tick
  txbuf : t.txbuf = s.txbuf ∨ ∃ ty n p, i = .enqueue ty n p
  txRequest : t.txRequest = s.txRequest ∨ (∃ ty n p, i = .enqueue ty n p) ∧ t.txRequest = .occupied
  status0 : t.status0 = s.status0 ∨ i = .rxClear ∧ t.status0 = .free
  status1 : t.status1 = s.status1 ∨ i = .rxClear ∧ t.status1 = .free
  bufferOut : t.bufferOut = s.bufferOut ∨ i = .rxClear

theorem WriteRights.trans {i : Instr} {s t u : State} (h : WriteRights i s t) (h' : WriteRights i t u) : WriteRights i s u where
  bufferIn := h'.bufferIn.trans h.bufferIn
  chkAcc := h'.chkAcc.trans h.chkAcc
  raw0 := h'.raw0.trans h.raw0
  raw1 := h'.raw1.trans h.raw1
  protocol := by
    obtain ⟨hp, hb, ht⟩ | hp := h'.protocol
    · simpa only [hp, hb, ht] using h.protocol
    · exact .inr hp
  freeCount := h'.freeCount.elim (fun e => e ▸ h.freeCount) .inr
  txbuf := h'.txbuf.elim (fun e => e ▸ h.txbuf) .inr
  txRequest := h'.txRequest.elim (fun e => e ▸ h.txRequest) .inr
  status0 := h'.status0.elim (fun e => e ▸ h.status0) .inr
  status1 := h'.status1.elim (fun e => e ▸ h.status1) .inr
  bufferOut := h'.bufferOut.elim (fun e => e ▸ h.bufferOut) .inr

theorem WriteRights.opStart (i : Instr) (s : State) : WriteRights i s s.opStart := by constructor <;> simp

theorem WriteRights.suspend (i : Instr) (s : State) (ms : List Micro) : WriteRights i s (s.withRest ms).enterHandler := by
  constructor <;> simp

theorem WriteRights.of_registers (i : Instr) {s t : State} (e : t.registers = s.registers) : WriteRights i s t := by
  have hr (t : State) : WriteRights i t.registers t ∧ WriteRights i t t.registers := by
    constructor <;> constructor <;> simp [State.registers]
  exact (e ▸ (hr s).2).trans (hr t).1

/-! ### The writers -/

/-- The host operation a writing micro-step is part of. -/
def Micro.BelongsTo (i : Instr) : Micro → Prop
  | .tickSense | .tickCount | .tickArm => i = .tick
  | .txStore _ _ | .enqTag => ∃ ty n p, i = .enqueue ty n p
  | .rxClearTag | .rxClearFlip => i = .rxClear
  | .point | .raise _ | .tickIdle | .enqCheck _ | .rxStatus | .rxLen | .rxType | .rxData _ => True

theorem copyProgram_belongsTo (off : Nat) (bs : List Byte) (typ len : Byte) (payload : List Byte) :
    ∀ m ∈ copyProgram off bs, m.BelongsTo (.enqueue typ len payload) := by
  induction bs generalizing off with
  | nil => nofun
  | cons b bs ih => exact List.forall_mem_cons.mpr ⟨⟨typ, len, payload, rfl⟩, List.forall_mem_cons.mpr ⟨trivial, ih (off + 1)⟩⟩

theorem enqueueProgram_belongsTo (typ len : Byte) (payload : List Byte) :
    ∀ m ∈ enqueueProgram typ len payload, m.BelongsTo (.enqueue typ len payload) := by
  simp only [enqueueProgram, List.forall_mem_append]
  refine ⟨⟨?_, copyProgram_belongsTo 5 _ typ len payload⟩, ?_⟩ <;> simp [Micro.BelongsTo]

theorem tickProgram_belongsTo (cfg : Config) : ∀ m ∈ tickProgram cfg, m.BelongsTo .tick := by
  unfold tickProgram
  split <;> simp [Micro.BelongsTo]

/-- The program of a host operation holds no other operation's writes. -/
theorem hostProgram_belongsTo (cfg : Config) (i : Instr) : ∀ m ∈ hostProgram cfg i, m.BelongsTo i := by
  have hillegal : ∀ m ∈ illegalProgram, m.BelongsTo i := by simp [illegalProgram, Micro.BelongsTo]
  cases i with
  | tick =>
    simp only [hostProgram]
    split
    · exact hillegal
    · exact tickProgram_belongsTo cfg
  | enqueue typ len payload =>
    simp only [hostProgram]
    split
    · exact hillegal
    · exact enqueueProgram_belongsTo typ len payload
  | rxClear => simp [hostProgram, rxClearProgram, Micro.BelongsTo]
  | rxStatus | rxLen | rxType | rxData => simp [hostProgram, Micro.BelongsTo]
  | _ => exact hillegal

/-- A micro-step writes within the rights of the operation it belongs to. -/
theorem microStep_writeRights {i : Instr} {m : Micro} (hi : m.BelongsTo i) {s t : State}
    (h : microStep m s = .go t ∨ microStep m s = .ended t) : WriteRights i s t := by
  cases m
  case tickSense =>
    simp only [microStep, tickSenseStep, State.senseCarrier_eq] at h
    split at h <;> rcases h with h | h <;> cases h <;> constructor <;> simp [show i = .tick from hi]
  case tickCount =>
    simp only [microStep, tickCountStep] at h
    split at h <;> rcases h with h | h <;> cases h <;> constructor <;> simp [show i = .tick from hi]
  case tickArm =>
    simp only [microStep, tickArmStep, State.armTransmission_eq] at h
    split at h <;> rcases h with h | h <;> cases h <;> constructor <;> simp [show i = .tick from hi]
  case txStore off b =>
    simp only [microStep, txStoreStep] at h
    split at h <;> rcases h with h | h <;> cases h
    obtain ⟨ty, n, p, rfl⟩ := hi
    constructor <;> simp
  case enqTag =>
    rcases h with h | h <;> cases h
    obtain ⟨ty, n, p, rfl⟩ := hi
    constructor <;> simp
  case rxClearTag =>
    simp only [microStep, rxClearTagStep] at h
    split at h <;> rcases h with h | h <;> cases h
    · rcases bit_cases s.bufferOut with hout | hout <;> constructor <;> simp [hout, show i = .rxClear from hi]
    · exact .of_registers i rfl
  case rxClearFlip =>
    rcases h with h | h <;> cases h
    constructor <;> simp [show i = .rxClear from hi]
  all_goals exact .of_registers i (registers_of_not_writes rfl h)

/-- A stretch of an operation's micro-steps writes within its rights, cut or uncut. -/
theorem runMainline_writeRights {i : Instr} {ms : List Micro} (hms : ∀ m ∈ ms, m.BelongsTo i) {s t : State}
    (ht : runMainline ms s = .next t) : WriteRights i s t := by
  refine runMicros_next (P := fun ms u => (∀ m ∈ ms, m.BelongsTo i) ∧ WriteRights i s u) (Q := WriteRights i s)
    ?_ ?_ ?_ ?_ ⟨hms, .opStart i s⟩ ht
  · intro m ms u v ⟨hms, hu⟩ hm
    rw [List.forall_mem_cons] at hms
    exact ⟨hms.2, hu.trans (microStep_writeRights hms.1 (.inl hm))⟩
  · intro m ms u v ⟨hms, hu⟩ hm
    rw [List.forall_mem_cons] at hms
    exact hu.trans (microStep_writeRights hms.1 (.inr hm))
  · exact fun u hu => hu.2
  · exact fun ms u hu _ => hu.2.trans (.suspend i u _)

theorem exec_writeRights {i : Instr} (hop : IsMainlineOp i) {s t : State} (ht : exec i s = .next t) : WriteRights i s t := by
  rw [exec_mainlineOp hop] at ht
  split_ifs at ht
  · cases ht
    exact .suspend i s _
  · exact runMainline_writeRights (hostProgram_belongsTo s.cfg i) ht

/-- Settles O45: a host operation is a list of micro-steps, each of which writes within the operation's rights. -/
theorem mainlineWriteRights : Obligations.MainlineWriteRights := by
  intro i s t hop ht
  obtain ⟨h1, h2, h3, h4, h5, h6, h7, h8, h9, h10, h11⟩ := exec_writeRights hop ht
  exact ⟨h1, h2, h3, h4, h5, h6, h7, h8, h9, h10, h11⟩

end Sys2Proof.Machine
end

section
/-! Buffers and bus transactions (rules R41 to R45, R47): a read returns the latest write, no access falls outside a buffer, and a
transaction is one event of the trace. -/

namespace Sys2Proof.Machine

open Sys2Proof

/-! ### Buffers -/

/-- Settles O8: the read-after-write law of the three buffers together. -/
theorem readReturnsLatestWrite : Obligations.ReadReturnsLatestWrite :=
  State.byteAt_memWrite

/-- Settles O50: the transmit sequencer and the stores of ENQUEUE, the only steps that can fault, stay inside TXBUF. -/
theorem invariantExcludesFaults : Obligations.InvariantExcludesFaults :=
  fun _ f h => h.step_ne_fault f

/-! ### Bus reads -/

theorem State.rdStatus_eq_takeStatus (s : State) :
    s.rdStatus = { s.takeStatus with trace := s.trace ++ [.rdStatus s.statusWord] } := by
  rw [State.rdStatus, State.emit, State.takeStatus_trace]

theorem State.rdByte_eq_takeByte (s : State) :
    s.rdByte = { s.takeByte with trace := s.trace ++ [.rdByte s.rxByte] } := by
  rw [State.rdByte, State.emit, State.takeByte_trace]

theorem State.takeStatus_cons {s : State} {w : Nat} {ws : List Nat} (h : s.statusAnswers = w :: ws) :
    s.takeStatus = { s with statusAnswers := ws } := by
  rw [State.takeStatus, h]

theorem State.takeByte_cons {s : State} {b : Byte} {bs : List Byte} (h : s.byteAnswers = b :: bs) :
    s.takeByte = { s with byteAnswers := bs } := by
  rw [State.takeByte, h]

/-- Settles O36: each read is its draw and its event, and a listed answer is the one drawn. -/
theorem busReadsTakeOneAnswer : Obligations.BusReadsTakeOneAnswer := by
  refine ⟨fun s => ⟨?_, s.statusWord_lt, fun w ws h => ?_⟩, fun s => ⟨?_, fun b bs h => ?_⟩⟩
  · exact congrArg Host.Outcome.next s.rdStatus_eq_takeStatus
  · exact ⟨State.statusWord_cons h, State.takeStatus_cons h⟩
  · exact congrArg Host.Outcome.next s.rdByte_eq_takeByte
  · exact ⟨State.rxByte_cons h, State.takeByte_cons h⟩

/-! ### Bus writes -/

/-- Settles O37: every bus write is `State.emit` of its event. -/
theorem busWritesOnlyTrace : Obligations.BusWritesOnlyTrace :=
  fun _ => ⟨fun _ => rfl, rfl, rfl, rfl, rfl, fun _ => rfl⟩

end Sys2Proof.Machine
end

section
/-! Which context a step runs (rules R48, R49): the Handler while an invocation is in progress, else Mainline, which at rest takes the
command presented. -/

namespace Sys2Proof.Machine

open Sys2Proof

theorem step_of_inHandler {s : State} (h : s.inHandler = true) : step s = runHandler s := if_pos h

theorem step_of_not_inHandler {s : State} (h : s.inHandler = false) : step s = runHost s := by
  rw [step, h]
  rfl

/-- At rest Mainline takes the first command presented (rule R60). -/
theorem runHost_command {s : State} {c : HostCommand} {cs : List HostCommand} (hm : s.mainline = []) (hq : s.hostQueue = c :: cs) :
    runHost s = runCommand c { s with hostQueue := cs } := by
  simp only [runHost, hm, hq]

theorem runCommand_operation {c : HostCommand} {i : Instr} (h : decodeHcw c = .ok i) (s : State) : runCommand c s = exec i s := by
  simp only [runCommand, fetchCommand, h]

/-- Settles O38: with no invocation in progress the step is Mainline's, at rest that is the command, and the command is its operation. -/
theorem stepRunsTheCommand : Obligations.StepRunsTheCommand := by
  intro s c cs i ⟨hh, hm⟩ hq hd
  rw [step_of_not_inHandler hh, runHost_command hm hq, runCommand_operation hd]

end Sys2Proof.Machine
end

section
/-! While the Handler runs Mainline takes no step (rule R48): each transition leaves what Mainline holds and only adds to the trace. -/

namespace Sys2Proof.Machine

open Sys2Proof

/-- What only Mainline, the host and the schedule move: the operation in progress, the commands presented, the coming preemptions, the
responses, and whether INIT has been performed. -/
def State.mainlineSide (s : State) : List Micro × List HostCommand × List (Option Nat) × List Response × Bool :=
  (s.mainline, s.hostQueue, s.schedule, s.responses, s.initDone)

/-- What the Handler may do to Mainline's side and to the bus trace (rules R45, R48). -/
structure HandlerEffect (s t : State) : Prop where
  mainlineSide : t.mainlineSide = s.mainlineSide
  trace : s.trace <+: t.trace

theorem HandlerEffect.trans {s t u : State} (h : HandlerEffect s t) (h' : HandlerEffect t u) : HandlerEffect s u :=
  ⟨h'.mainlineSide.trans h.mainlineSide, h.trace.trans h'.trace⟩

theorem State.rdStatus_handlerEffect (s : State) : HandlerEffect s s.rdStatus := by
  constructor <;> simp [State.mainlineSide]

theorem State.rdByte_handlerEffect (s : State) : HandlerEffect s s.rdByte := by
  constructor <;> simp [State.mainlineSide]

theorem State.leaveHandler_handlerEffect (s : State) : HandlerEffect s s.leaveHandler := by
  constructor <;> simp [State.mainlineSide]

theorem State.resetPath_handlerEffect (s : State) : HandlerEffect s s.resetPath := by
  constructor <;> simp [State.mainlineSide]

/-- H_RXIDLE (rule R88). -/
theorem State.receiveLength_handlerEffect (s : State) : HandlerEffect s s.receiveLength := by
  refine s.rdByte_handlerEffect.trans ?_
  have hseed : HandlerEffect s.rdByte (s.rdByte.seedReception s.rxByte) := ⟨rfl, List.prefix_rfl⟩
  refine hseed.trans ?_
  simp only [State.receiveLength]
  split
  · constructor <;> simp [State.mainlineSide]
  · exact State.resetPath_handlerEffect _

theorem State.acceptByte_handlerEffect (s : State) (b : Byte) : HandlerEffect s (s.acceptByte b) := by
  simp only [State.acceptByte]
  split <;> constructor <;> simp [State.mainlineSide]

theorem State.completeReception_handlerEffect (s : State) : HandlerEffect s s.completeReception := by
  constructor <;> simp [State.mainlineSide, State.completeReception]

/-- H_RXACTIVE (rule R89). -/
theorem State.receiveByte_handlerEffect (s : State) : HandlerEffect s s.receiveByte := by
  refine s.rdByte_handlerEffect.trans ?_
  have hstored := s.rdByte.acceptByte_handlerEffect s.rxByte
  simp only [State.receiveByte]
  split_ifs
  · exact hstored.trans (State.resetPath_handlerEffect _)
  · exact ⟨hstored.mainlineSide, hstored.trace⟩
  · exact State.completeReception_handlerEffect _

theorem State.completeTransmission_handlerEffect (s : State) : HandlerEffect s s.completeTransmission := by
  constructor <;> simp [State.mainlineSide, State.completeTransmission]

/-- H_TX (rule R91). -/
theorem execHTx_handlerEffect {s t : State} (h : execHTx s = .next t) : HandlerEffect s t := by
  unfold execHTx at h
  split at h
  · split at h <;> cases h
    constructor <;> simp [State.mainlineSide]
  · cases h
    exact s.completeTransmission_handlerEffect

/-- One iteration of the Handler's loop: the status read, then the transition selected (rules R85, R87). -/
theorem runHandler_handlerEffect {s t : State} (h : runHandler s = .next t) : HandlerEffect s t := by
  refine s.rdStatus_handlerEffect.trans ?_
  unfold runHandler at h
  obtain hi | ⟨-, hi⟩ | ⟨-, hi⟩ | ⟨-, hi⟩ | ⟨-, hi⟩ := s.handlerInstr_cases <;> rw [hi] at h
  · cases h
    exact s.rdStatus.leaveHandler_handlerEffect
  · cases h
    exact s.rdStatus.receiveLength_handlerEffect
  · cases h
    exact s.rdStatus.receiveByte_handlerEffect
  · exact execHTx_handlerEffect h
  · cases h
    exact s.rdStatus.resetPath_handlerEffect

/-- Settles O44: the step is an iteration of the Handler's loop, whose transitions leave Mainline's side alone. -/
theorem handlerIsAtomic : Obligations.HandlerIsAtomic := by
  intro s t hh ht
  rw [step_of_inHandler hh] at ht
  simpa only [State.mainlineSide, Prod.mk.injEq] using (runHandler_handlerEffect ht).mainlineSide

end Sys2Proof.Machine
end

section
/-! The outputs only grow (rules R45, R64): the Handler's by its effect, Mainline's by one induction over a stretch. -/

namespace Sys2Proof.Machine

open Sys2Proof

/-- The outputs of `t` extend those of `s`. -/
structure OutputsExtend (s t : State) : Prop where
  trace : s.trace <+: t.trace
  responses : s.responses <+: t.responses

theorem OutputsExtend.refl (s : State) : OutputsExtend s s := ⟨List.prefix_rfl, List.prefix_rfl⟩

theorem OutputsExtend.trans {s t u : State} (h : OutputsExtend s t) (h' : OutputsExtend t u) : OutputsExtend s u :=
  ⟨h.trace.trans h'.trace, h.responses.trans h'.responses⟩

theorem HandlerEffect.outputsExtend {s t : State} (h : HandlerEffect s t) : OutputsExtend s t := by
  have hr : t.responses = s.responses := congrArg (·.2.2.2.1) h.mainlineSide
  exact ⟨h.trace, hr ▸ List.prefix_rfl⟩

/-! ### A stretch of Mainline -/

theorem State.respond_outputsExtend (s : State) (rc : ResultCode) (d : Byte) : OutputsExtend s (s.respond rc d) := by
  constructor <;> simp

/-- Mainline left at a point, the Handler entered (rule R137). -/
theorem State.suspend_outputsExtend (s : State) (ms : List Micro) : OutputsExtend s (s.withRest ms).enterHandler := by
  constructor <;> simp

theorem State.opStart_outputsExtend (s : State) : OutputsExtend s s.opStart := by
  constructor <;> simp

theorem readCompleteStep_outputsExtend {n : Nat} {s t : State}
    (h : readCompleteStep n s = .go t ∨ readCompleteStep n s = .ended t) : OutputsExtend s t := by
  unfold readCompleteStep at h
  split at h <;> rcases h with h | h <;> cases h <;> constructor <;> simp

/-- A micro-step emits the events of its masked region and gives at most its response. -/
theorem microStep_outputsExtend {m : Micro} {s t : State} (h : microStep m s = .go t ∨ microStep m s = .ended t) :
    OutputsExtend s t := by
  cases m
  case point | enqTag | rxClearFlip => rcases h with h | h <;> cases h; exact ⟨List.prefix_rfl, List.prefix_rfl⟩
  case raise | rxStatus => rcases h with h | h <;> cases h; exact s.respond_outputsExtend _ _
  case rxLen | rxType => exact readCompleteStep_outputsExtend h
  case rxData =>
    simp only [microStep, rxDataStep] at h
    split at h
    · rcases h with h | h <;> cases h
      exact s.respond_outputsExtend _ _
    · exact readCompleteStep_outputsExtend h
  case tickSense =>
    simp only [microStep, tickSenseStep, State.senseCarrier_eq] at h
    split at h <;> rcases h with h | h <;> cases h <;> constructor <;> simp
  case tickArm =>
    simp only [microStep, tickArmStep, State.armTransmission_eq] at h
    split at h <;> rcases h with h | h <;> cases h <;> constructor <;> simp
  case tickIdle =>
    simp only [microStep, tickIdleStep] at h
    split at h <;> rcases h with h | h <;> cases h <;> constructor <;> simp
  case tickCount =>
    simp only [microStep, tickCountStep] at h
    split at h <;> rcases h with h | h <;> cases h <;> constructor <;> simp
  case enqCheck =>
    simp only [microStep, enqCheckStep] at h
    split_ifs at h <;> rcases h with h | h <;> cases h <;> constructor <;> simp
  case txStore =>
    simp only [microStep, txStoreStep] at h
    split at h <;> rcases h with h | h <;> cases h
    constructor <;> simp
  case rxClearTag =>
    simp only [microStep, rxClearTagStep] at h
    split at h <;> rcases h with h | h <;> cases h <;> constructor <;> simp

/-- A stretch of Mainline, cut or uncut. -/
theorem runMainline_outputsExtend {ms : List Micro} {s t : State} (h : runMainline ms s = .next t) : OutputsExtend s t := by
  refine runMicros_next (P := fun _ => OutputsExtend s) (Q := OutputsExtend s) ?_ ?_ ?_ ?_ s.opStart_outputsExtend h
  · exact fun _ _ _ _ hu hm => hu.trans (microStep_outputsExtend (.inl hm))
  · exact fun _ _ _ _ hu hm => hu.trans (microStep_outputsExtend (.inr hm))
  · exact fun _ hu => hu
  · exact fun ms u hu _ => hu.trans (u.suspend_outputsExtend _)

/-! ### Commands and steps -/

theorem State.bringUp_outputsExtend (s : State) : OutputsExtend s s.bringUp := by
  constructor <;> simp [State.bringUp, State.resetRegisters, State.writeConfig_eq]

theorem execInit_outputsExtend {s t : State} (h : execInit s = .next t) : OutputsExtend s t := by
  unfold execInit at h
  split at h <;> cases h
  exact s.bringUp_outputsExtend.trans (s.bringUp.respond_outputsExtend _ _)

theorem exec_mainlineOp_outputsExtend {i : Instr} (hop : IsMainlineOp i) {s t : State} (h : exec i s = .next t) :
    OutputsExtend s t := by
  rw [exec_mainlineOp hop] at h
  split_ifs at h
  · cases h
    exact s.suspend_outputsExtend _
  · exact runMainline_outputsExtend h

theorem runCommand_outputsExtend {c : HostCommand} {s t : State} (h : runCommand c s = .next t) : OutputsExtend s t := by
  obtain hc | ⟨i, hi, hc⟩ | hc | ⟨r, hc⟩ := runCommand_cases c s <;> rw [hc] at h
  · exact execInit_outputsExtend h
  · exact exec_mainlineOp_outputsExtend hi h
  · exact runMainline_outputsExtend h
  · cases h

theorem runIdle_outputsExtend {s t : State} (h : runIdle s = .next t) : OutputsExtend s t := by
  refine s.opStart_outputsExtend.trans ?_
  unfold runIdle at h
  split at h <;> cases h
  · constructor <;> simp
  · exact .refl _

theorem runHost_outputsExtend {s t : State} (h : runHost s = .next t) : OutputsExtend s t := by
  unfold runHost at h
  split at h
  · exact runMainline_outputsExtend h
  next cs _ _ =>
    have hp : OutputsExtend s { s with hostQueue := cs } := ⟨List.prefix_rfl, List.prefix_rfl⟩
    exact hp.trans (runCommand_outputsExtend h)
  · exact runIdle_outputsExtend h

theorem step_outputsExtend {s t : State} (h : step s = .next t) : OutputsExtend s t := by
  unfold step at h
  split at h
  · exact (runHandler_handlerEffect h).outputsExtend
  · exact runHost_outputsExtend h

/-- Settles O47: the step of either context extends both outputs. -/
theorem outputsOnlyGrow : Obligations.OutputsOnlyGrow := by
  intro s t h
  obtain ⟨⟨es, hes⟩, ⟨rs, hrs⟩⟩ := step_outputsExtend h
  exact ⟨⟨es, hes.symm⟩, ⟨rs, hrs.symm⟩⟩

end Sys2Proof.Machine
end

section
/-! The formats and their decoder (rules R60 to R67, R71, R72): the round trip, the ignored fields, the reserved op codes. -/

namespace Sys2Proof

/-- Settles O3: the round trip of each constructor. -/
theorem decodeEncodeAgree : Obligations.DecodeEncodeAgree := by
  intro i
  show Laws.RoundTrip.Statement i
  cases i with
  | init => exact Laws.RoundTrip.init
  | tick => exact Laws.RoundTrip.tick
  | enqueue typ len payload => exact Laws.RoundTrip.enqueue typ len payload
  | rxStatus => exact Laws.RoundTrip.rxStatus
  | rxLen => exact Laws.RoundTrip.rxLen
  | rxType => exact Laws.RoundTrip.rxType
  | rxData index => exact Laws.RoundTrip.rxData index
  | rxClear => exact Laws.RoundTrip.rxClear
  | poll => exact Laws.RoundTrip.poll
  | hNone => exact Laws.RoundTrip.hNone
  | hRxIdle => exact Laws.RoundTrip.hRxIdle
  | hRxActive => exact Laws.RoundTrip.hRxActive
  | hTx => exact Laws.RoundTrip.hTx
  | hRsvd => exact Laws.RoundTrip.hRsvd
  | rdStatus => exact Laws.RoundTrip.rdStatus
  | rdByte => exact Laws.RoundTrip.rdByte
  | wrByte b => exact Laws.RoundTrip.wrByte b
  | modeTx => exact Laws.RoundTrip.modeTx
  | modeRx => exact Laws.RoundTrip.modeRx
  | queueClear => exact Laws.RoundTrip.queueClear
  | queueArm => exact Laws.RoundTrip.queueArm
  | wrCfg w => exact Laws.RoundTrip.wrCfg w

/-- Settles O4: the decoder reads the three fields as they were written, and the payload only for ENQUEUE. -/
theorem ignoredFieldsHaveNoEffect : Obligations.IgnoredFieldsHaveNoEffect := by
  intro a b p
  simp only [decodeHcw, HostCommand.op_hcwWord, HostCommand.a_hcwWord, HostCommand.b_hcwWord]
  exact ⟨rfl, rfl, fun h => if_pos h, rfl, rfl, rfl, rfl, rfl, rfl⟩

/-- The last row of the operation map is reached by exactly the reserved op codes (rules R61, R71 a). -/
theorem decodeHcw_reservedOp_iff (c : HostCommand) :
    decodeHcw c = .error (.reservedOp c.op) ↔ c.op = 0 ∨ 0xA ≤ c.op.toNat := by
  unfold decodeHcw
  split
  case h_10 hnot1 hnot2 hnot3 hnot4 hnot5 hnot6 hnot7 hnot8 hnot9 =>
    refine iff_of_true rfl ?_
    generalize c.op = op at *
    revert op
    simp only [imp_false]
    decide
  case h_3 h =>
    rw [h]
    split <;> exact iff_of_false nofun (by decide)
  all_goals
    rename_i h
    rw [h]
    exact iff_of_false nofun (by decide)

/-- Settles O5: the op field of the word is `op`, whatever the operand fields hold. -/
theorem reservedOpsAreRejected : Obligations.ReservedOpsAreRejected := by
  intro op a b p
  have h := decodeHcw_reservedOp_iff ⟨hcwWord op a b, p⟩
  rw [HostCommand.op_hcwWord] at h
  exact h.symm

/-- Settles O2: the decoder evaluated on each word. -/
theorem wordsDecodeAsTheTableSays : Obligations.WordsDecodeAsTheTableSays :=
  ⟨rfl, rfl, rfl, rfl, rfl, rfl, rfl, rfl, rfl, rfl, rfl⟩

end Sys2Proof
end

section
/-! The operations a build disables (rules R71 b, R122): each runs the program that ends at once with ILLEGAL. -/

namespace Sys2Proof.Machine

open Sys2Proof

/-- An operation that ends at once with ILLEGAL writes no state (rule R71). -/
theorem hostOperation_illegalProgram {s : State} (hi : s.initDone = true) (hr : s.RunsThrough) :
    hostOperation illegalProgram s = .next (s.opStart.respond .illegal 0) :=
  hostOperation_through hi hr illegalProgram

/-- Settles O15: in its disabled build each of the three operations is the ILLEGAL program. -/
theorem disabledOperationsAreIllegal : Obligations.DisabledOperationsAreIllegal := by
  intro s hi hr
  have hill := hostOperation_illegalProgram hi hr
  refine ⟨fun hpoll => ?_, fun hrx => ⟨?_, fun typ len payload => ?_⟩⟩
  · show execPoll s = _
    rw [execPoll, hpoll]
    exact hill
  · show execTick s = _
    rw [execTick, hrx]
    exact hill
  · show execEnqueue typ len payload s = _
    rw [execEnqueue, hrx]
    exact hill

end Sys2Proof.Machine
end

section
/-! A Chip that keeps answering ready (rules R66, R87): each step of the Handler takes one answer and runs the transition that
`protocol_state` selects. -/

namespace Sys2Proof.Machine

open Sys2Proof

/-- The Chip's next answers to status reads are `ws`, and each has the ready bit (rules R54, R68). -/
structure AnswersReady (s : State) (ws : List Nat) : Prop where
  next : ws <+: s.statusAnswers
  ready : ∀ w ∈ ws, readyIn s.cfg (w % 2 ^ s.cfg.statusW) = true

/-- The word the Handler reads is the first answer, which is ready. -/
theorem AnswersReady.readyIn_statusWord {s : State} {w : Nat} {ws : List Nat} (h : AnswersReady s (w :: ws)) :
    readyIn s.cfg s.statusWord = true := by
  obtain ⟨rest, hrest⟩ := h.next
  rw [State.statusWord_cons hrest.symm]
  exact h.ready w List.mem_cons_self

/-- A step that takes one answer leaves the others. -/
theorem AnswersReady.tail {s t : State} {w : Nat} {ws : List Nat} (h : AnswersReady s (w :: ws)) (hcfg : t.cfg = s.cfg)
    (ht : t.statusAnswers = s.statusAnswers.tail) : AnswersReady t ws := by
  obtain ⟨⟨rest, hrest⟩, hready⟩ := h
  refine ⟨⟨rest, ?_⟩, fun v hv => hcfg ▸ hready v (List.mem_cons_of_mem w hv)⟩
  rw [ht, ← hrest]
  rfl

/-- With the ready bit set while Transmitting, the transition is H_TX (rules R66, R67). -/
theorem State.handlerInstr_transmitting {s : State} (hp : s.protocolState = .transmitting)
    (hr : readyIn s.cfg s.statusWord = true) : s.handlerInstr = .hTx := by
  rw [State.handlerInstr, hp, hr]
  rfl

/-- A ready event while Transmitting is one H_TX after the status read (rules R85, R91). -/
theorem step_transmitting {s : State} (hh : s.inHandler = true) (hp : s.protocolState = .transmitting)
    (hr : readyIn s.cfg s.statusWord = true) : step s = execHTx s.rdStatus := by
  rw [step_of_inHandler hh, runHandler, State.handlerInstr_transmitting hp hr]
  rfl

theorem steps_succ {s t : State} (h : step s = .next t) (n : Nat) : steps (n + 1) s = steps n t := by
  rw [steps, h]

end Sys2Proof.Machine
end

section
/-! A transmission on the bus (rules R56, R80, R91): each ready event writes the next byte of the transmit sequence, and the event after
the last byte writes the flush byte and releases the buffer. -/

namespace Sys2Proof.Machine

open Sys2Proof

/-! ### The bytes written -/

theorem State.sentBytes_rdStatus (s : State) : sentBytes s.rdStatus.trace = sentBytes s.trace := by
  simp [sentBytes]

theorem State.sentBytes_wrByte (s : State) (b : Byte) : sentBytes (s.wrByte b).trace = sentBytes s.trace ++ [b] := by
  simp [sentBytes]

/-- Of the completion's events the flush byte alone is a byte written (rule R91). -/
theorem State.sentBytes_completeTransmission (s : State) :
    sentBytes s.completeTransmission.trace = sentBytes s.trace ++ [s.cfg.dummyByte] := by
  simp [State.completeTransmission, sentBytes]

/-! ### The transmit sequence -/

/-- The transmit sequence reads the configuration and TXBUF alone. -/
theorem State.txSeq_congr {s t : State} (hcfg : t.cfg = s.cfg) (hbuf : t.txbuf = s.txbuf) (n : Nat) : t.txSeq n = s.txSeq n := by
  have hsize : t.size .txbuf = s.size .txbuf := by rw [State.size, State.size, hcfg]
  have hbyte (a : Nat) : t.byteAt .txbuf a = s.byteAt .txbuf a := by
    rw [State.byteAt, State.byteAt, State.mem, State.mem, hbuf]
  simp only [State.txSeq, State.memRead, hsize, hbyte, hcfg]

/-- What a transmission sends before its flush byte: the sync pattern, the header and the payload in TXBUF, then the trailer (rule R80). -/
def State.txFrame (s : State) : List Byte :=
  (List.range (5 + (s.byteAt .txbuf 2).toNat)).map (s.byteAt .txbuf) ++ List.replicate s.cfg.trailerLen s.cfg.trailerByte

theorem State.txFrame_length (s : State) : s.txFrame.length = txTotal s.cfg (s.byteAt .txbuf 2) := by
  simp only [State.txFrame, List.length_append, List.length_map, List.length_range, List.length_replicate, txTotal, Config.txOverhead]
  omega

/-- The transmit sequence of a length within CAPACITY is the frame, byte by byte (rule R80). -/
theorem State.txSeq_eq_txFrame {s : State} (hcap : (s.byteAt .txbuf 2).toNat ≤ s.cfg.capacity) {n : Nat} (hn : n < s.txFrame.length) :
    s.txSeq n = s.txFrame[n]? := by
  rw [State.txFrame_length, txTotal, Config.txOverhead] at hn
  unfold State.txSeq State.txFrame
  split
  next hbuf =>
    have hsize : n < s.size .txbuf := by
      show n < 5 + s.cfg.capacity
      omega
    rw [State.memRead, if_pos hsize, List.getElem?_append_left (by simpa using hbuf)]
    simp [hbuf]
  next htrailer =>
    have hlast : n - (5 + (s.byteAt .txbuf 2).toNat) < s.cfg.trailerLen := by omega
    rw [List.getElem?_append_right (by simpa using htrailer), List.length_map, List.length_range,
      List.getElem?_replicate_of_lt hlast]

/-! ### H_TX -/

/-- H_TX with a byte due writes it and counts it (rule R91). -/
theorem execHTx_of_txSeq {s : State} {b : Byte} (hlt : s.byteCount < s.totalBytes) (hb : s.txSeq s.byteCount = some b) :
    execHTx s = .next { s.wrByte b with byteCount := s.byteCount + 1 } := by
  rw [execHTx, if_pos hlt, hb]

/-- H_TX with no byte due completes the transmission (rule R91). -/
theorem execHTx_of_sent {s : State} (h : s.byteCount = s.totalBytes) : execHTx s = .next s.completeTransmission :=
  if_neg (by omega)

/-! ### The whole transmission -/

/-- A transmission that still has the bytes `bs` of its sequence to send (rules R80, R91). -/
structure Sending (s : State) (bs : List Byte) : Prop where
  inHandler : s.inHandler = true
  transmitting : s.protocolState = .transmitting
  count : s.byteCount + bs.length = s.totalBytes
  coming : ∀ i < bs.length, s.txSeq (s.byteCount + i) = bs[i]?

/-- A transmission has run to its end from `s`, having written `bs` and the flush byte (rule R91). -/
structure TransmissionEnd (s t : State) (bs : List Byte) : Prop where
  idle : t.protocolState = .receiveIdle
  released : t.txRequest = .free
  kept : t.txbuf = s.txbuf
  sent : sentBytes t.trace = sentBytes s.trace ++ bs ++ [s.cfg.dummyByte]

/-- A ready event with a byte due sends it, and the transmission goes on with the bytes after it. -/
theorem Sending.step_cons {s : State} {b : Byte} {bs : List Byte} {w : Nat} {ws : List Nat} (h : Sending s (b :: bs))
    (hw : AnswersReady s (w :: ws)) :
    ∃ t, step s = .next t ∧ Sending t bs ∧ AnswersReady t ws ∧ t.cfg = s.cfg ∧ t.txbuf = s.txbuf ∧
      sentBytes t.trace = sentBytes s.trace ++ [b] := by
  obtain ⟨hh, hp, hcount, hcoming⟩ := h
  rw [List.length_cons] at hcount
  have hlt : s.rdStatus.byteCount < s.rdStatus.totalBytes := by
    simp only [State.rdStatus_byteCount, State.rdStatus_totalBytes]
    omega
  have hb : s.rdStatus.txSeq s.rdStatus.byteCount = some b := by
    rw [State.txSeq_congr s.rdStatus_cfg s.rdStatus_txbuf, State.rdStatus_byteCount]
    exact hcoming 0 (Nat.succ_pos _)
  refine ⟨_, (step_transmitting hh hp hw.readyIn_statusWord).trans (execHTx_of_txSeq hlt hb),
    ⟨by simpa using hh, by simpa using hp, ?_, fun i hi => ?_⟩, hw.tail (by simp) (by simp), by simp, by simp, ?_⟩
  · simp only [State.rdStatus_byteCount, State.wrByte_totalBytes, State.rdStatus_totalBytes]
    omega
  · rw [State.txSeq_congr (s := s) (by simp) (by simp), State.rdStatus_byteCount, Nat.add_assoc, Nat.add_comm 1]
    exact hcoming (i + 1) (Nat.succ_lt_succ hi)
  · exact (s.rdStatus.sentBytes_wrByte b).trans (by rw [s.sentBytes_rdStatus])

/-- A ready event with every byte sent ends the transmission. -/
theorem Sending.step_nil {s : State} {w : Nat} {ws : List Nat} (h : Sending s []) (hw : AnswersReady s (w :: ws)) :
    ∃ t, step s = .next t ∧ TransmissionEnd s t [] := by
  obtain ⟨hh, hp, hcount, -⟩ := h
  have hsent : s.rdStatus.byteCount = s.rdStatus.totalBytes := by simpa using hcount
  refine ⟨_, (step_transmitting hh hp hw.readyIn_statusWord).trans (execHTx_of_sent hsent), ⟨rfl, rfl, ?_, ?_⟩⟩
  · simp [State.completeTransmission]
  · rw [State.sentBytes_completeTransmission, State.sentBytes_rdStatus, State.rdStatus_cfg, List.append_nil]

/-- Ready events, one per byte left and one more, run a transmission to its end. -/
theorem Sending.steps_end {bs : List Byte} {s : State} {ws : List Nat} (h : Sending s bs) (hw : AnswersReady s ws)
    (hlen : ws.length = bs.length + 1) : ∃ t, steps (bs.length + 1) s = .next t ∧ TransmissionEnd s t bs := by
  induction bs generalizing s ws with
  | nil =>
    obtain ⟨w, ws, rfl⟩ := List.exists_cons_of_length_eq_add_one hlen
    obtain ⟨t, hst, ht⟩ := h.step_nil hw
    exact ⟨t, steps_succ hst 0, ht⟩
  | cons b bs ih =>
    obtain ⟨w, ws, rfl⟩ := List.exists_cons_of_length_eq_add_one hlen
    obtain ⟨u, hsu, hu, hwu, hcfg, hbuf, hsent⟩ := h.step_cons hw
    obtain ⟨t, hut, hidle, hfree, hkept, hsentt⟩ := ih hu hwu (Nat.succ.inj hlen)
    refine ⟨t, (steps_succ hsu _).trans hut, hidle, hfree, hkept.trans hbuf, ?_⟩
    rw [hsentt, hsent, hcfg, List.append_assoc _ [b]]
    rfl

/-- Settles O52: the bytes to send are the frame in TXBUF, of `total_bytes` bytes. -/
theorem transmissionOnTheBus : Obligations.TransmissionOnTheBus := by
  intro s ws rest _ hh hp hcount htotal hcap hans hlen hready
  have hframe : s.txFrame.length = s.totalBytes := s.txFrame_length.trans htotal.symm
  have hsending : Sending s s.txFrame :=
    ⟨hh, hp, by omega, fun i hi => by rw [hcount, Nat.zero_add, State.txSeq_eq_txFrame hcap hi]⟩
  have hanswers : AnswersReady s ws := ⟨⟨rest, hans.symm⟩, fun w hw => bne_iff_ne.mpr (hready w hw)⟩
  obtain ⟨t, hst, hidle, hfree, hkept, hsent⟩ := hsending.steps_end hanswers (by rw [hlen, hframe])
  refine ⟨t, hframe ▸ hst, hidle, hfree, hkept, ?_⟩
  rw [hsent, State.txFrame, ← List.append_assoc (sentBytes s.trace)]

end Sys2Proof.Machine
end

section
/-! The checksum and the transmit sequence (rules R77, R80): the XOR of a header's three bytes is 0xFF exactly if the third is the
checksum of the first two. -/

namespace Sys2Proof.Machine

open Sys2Proof

/-- The header sum is 0xFF exactly if the checksum byte is `CHK(length, type)` (rule R79). -/
theorem headerXor_eq_iff (len typ sum : Byte) : len ^^^ typ ^^^ sum = 0xFF ↔ sum = chk len typ :=
  xor_eq_iff_right_eq (len ^^^ typ) sum 0xFF

/-- Settles O1: the definition, and XOR of a byte with itself in the corner cases. -/
theorem transmitChecksum : Obligations.TransmitChecksum := by
  refine ⟨fun _ _ => rfl, by decide, fun x => ?_, fun x => ?_, by decide⟩
  · rw [chk, BitVec.xor_self, BitVec.zero_xor]
  · rw [chk, ← BitVec.xor_assoc, BitVec.xor_self, BitVec.zero_xor, BitVec.xor_self]
    rfl

/-- Settles O7: an offset below `5 + L` lies inside TXBUF when L is within CAPACITY. -/
theorem transmitSequence : Obligations.TransmitSequence := by
  intro s n hcap _
  rw [State.txSeq]
  split
  next hbuf =>
    have hsize : n < s.size .txbuf := by
      show n < 5 + s.cfg.capacity
      omega
    rw [State.memRead, if_pos hsize]
  next => rfl

end Sys2Proof.Machine
end

section
/-! The receive framer (rules R78, R79, R88, R89): each byte taken is summed and stored at the offset that counts it; the third ends
the header and decides whether the reception goes on; the event after the last byte completes the slot. -/

namespace Sys2Proof.Machine

open Sys2Proof

/-! ### The two transitions, by their branches -/

@[simp] theorem State.slotStatus_rdByte (s : State) (k : BitVec 1) : s.rdByte.slotStatus k = s.slotStatus k := by
  simp [State.slotStatus]

@[simp] theorem State.slotByte_rdByte (s : State) (k : BitVec 1) (n : Nat) : s.rdByte.slotByte k n = s.slotByte k n :=
  State.byteAt_congr (by simp) (by simp) (by simp) _ n

/-- The length byte with a Free slot (rule R88). -/
theorem State.receiveLength_of_free {s : State} (hf : s.slotStatus s.bufferIn = .free) : s.receiveLength =
    { (s.rdByte.seedReception s.rxByte).memWrite (slotSpace s.bufferIn) 0 s.rxByte with protocolState := .receiveActive } := by
  have hin : (s.rdByte.seedReception s.rxByte).bufferIn = s.bufferIn := s.rdByte_bufferIn
  have hfree : (s.rdByte.seedReception s.rxByte).slotStatus s.bufferIn = .free := (s.slotStatus_rdByte _).trans hf
  simp only [State.receiveLength, hin, hfree, if_true]

/-- A byte before the total is accepted, and the third byte of a wrong header then takes the reset path; at the total the event
completes the reception (rules R79, R89). -/
theorem State.receiveByte_eq (s : State) : s.receiveByte =
    if s.byteCount < s.totalBytes then
      if s.byteCount = 2 ∧ s.chkAcc ^^^ s.rxByte ≠ 0xFF then (s.rdByte.acceptByte s.rxByte).resetPath
      else { s.rdByte.acceptByte s.rxByte with byteCount := s.byteCount + 1 }
    else s.rdByte.completeReception := by
  simp only [State.receiveByte, State.rdByte_byteCount, State.rdByte_totalBytes, State.rdByte_chkAcc, State.acceptByte_byteCount,
    State.acceptByte_chkAcc]

/-! ### What the slot holds -/

/-- What slot byte `n` of slot `k` is once the bytes `got` have been received into the slot at `buffer_in` of `s`: a byte beyond the
slot's room is dropped (rules R41 a, R89). -/
def State.slotAfter (s : State) (got : List Byte) (k : BitVec 1) (n : Nat) : Byte :=
  if k = s.bufferIn ∧ n < 3 + s.cfg.capacity then got[n]?.getD (s.slotByte k n) else s.slotByte k n

@[simp] theorem State.slotAfter_nil (s : State) (k : BitVec 1) (n : Nat) : s.slotAfter [] k n = s.slotByte k n := by
  simp [State.slotAfter]

/-- The byte received last stands at the offset that counted it, where the slot has room. -/
theorem State.slotAfter_append (s : State) (got : List Byte) (b : Byte) (k : BitVec 1) (n : Nat) :
    s.slotAfter (got ++ [b]) k n =
      if got.length < 3 + s.cfg.capacity ∧ k = s.bufferIn ∧ n = got.length then b else s.slotAfter got k n := by
  unfold State.slotAfter
  rcases lt_trichotomy n got.length with hn | rfl | hn
  · rw [List.getElem?_append_left hn, if_neg (by omega : ¬ (_ ∧ _ ∧ n = got.length))]
  · rw [List.getElem?_concat_length, Option.getD_some, List.getElem?_eq_none le_rfl, Option.getD_none, ite_self]
    simp [and_comm]
  · rw [List.getElem?_eq_none (by simpa using hn), List.getElem?_eq_none hn.le, if_neg (by omega : ¬ (_ ∧ _ ∧ n = got.length))]

/-- A received byte within the slot's room stands at its offset. -/
theorem State.slotAfter_of_getElem? (s : State) {got : List Byte} {n : Nat} {b : Byte} (hb : got[n]? = some b)
    (hroom : n < 3 + s.cfg.capacity) : s.slotAfter got s.bufferIn n = b := by
  rw [State.slotAfter, if_pos ⟨rfl, hroom⟩, hb, Option.getD_some]

/-- Since `s₀` the bytes `got` have been received into the slot at `buffer_in`, which is still Free; the Chip's next bytes are
`coming`. -/
structure SlotHolds (s₀ s : State) (got coming : List Byte) : Prop where
  cfg : s.cfg = s₀.cfg
  bufferIn : s.bufferIn = s₀.bufferIn
  free : s.slotStatus s₀.bufferIn = .free
  coming : s.byteAnswers = coming
  slotByte : ∀ k n, s.slotByte k n = s₀.slotAfter got k n

/-- A frame byte accepted at its offset (rule R89). -/
theorem SlotHolds.acceptByte {s₀ s : State} {got coming : List Byte} {b : Byte} (h : SlotHolds s₀ s got (b :: coming))
    (hcount : s.byteCount = got.length) : SlotHolds s₀ (s.rdByte.acceptByte b) (got ++ [b]) coming where
  cfg := by simpa using h.cfg
  bufferIn := by simpa using h.bufferIn
  free := by simpa using h.free
  coming := by
    rw [State.acceptByte_eq]
    simp [h.coming]
  slotByte k n := by
    simp [State.slotByte_acceptByte, State.slotAfter_append, h.slotByte, h.cfg, h.bufferIn, hcount]

/-- The reset path leaves what the slot holds (rule R93). -/
theorem SlotHolds.resetPath {s₀ s : State} {got coming : List Byte} (h : SlotHolds s₀ s got coming) :
    SlotHolds s₀ s.resetPath got coming :=
  ⟨h.cfg, h.bufferIn, h.free, h.coming, h.slotByte⟩

/-! ### A reception in progress -/

/-- What `chk_acc` holds once the bytes have been received (rule R78). -/
def xorSum (bs : List Byte) : Byte := bs.foldl (· ^^^ ·) 0

theorem xorSum_append (bs : List Byte) (b : Byte) : xorSum (bs ++ [b]) = xorSum bs ^^^ b := List.foldl_concat ..

theorem xorSum_singleton (b : Byte) : xorSum [b] = b := BitVec.zero_xor

theorem xorSum_header (len typ sum : Byte) : xorSum [len, typ, sum] = len ^^^ typ ^^^ sum :=
  congrArg (· ^^^ typ ^^^ sum) (xorSum_singleton len)

/-- A reception with length byte `len`, begun in `s₀`, of which the bytes `got` have been received (rules R88, R89). -/
structure Receiving (s₀ s : State) (len : Byte) (got coming : List Byte) : Prop extends SlotHolds s₀ s got coming where
  active : s.protocolState = .receiveActive
  count : s.byteCount = got.length
  total : s.totalBytes = rxTotal s₀.cfg len
  sum : s.chkAcc = xorSum got

/-- The length byte, with a Free slot, begins a reception (rule R88). -/
theorem State.receiveLength_receiving {s : State} {len : Byte} {coming : List Byte} (hf : s.slotStatus s.bufferIn = .free)
    (hb : s.byteAnswers = len :: coming) : Receiving s s.receiveLength len [len] coming := by
  rw [State.receiveLength_of_free hf, State.rxByte_cons hb]
  constructor
  case toSlotHolds =>
    constructor
    case cfg => simp [State.seedReception]
    case bufferIn => simp [State.seedReception]
    case free => exact (State.slotStatus_memWrite ..).trans ((s.slotStatus_rdByte _).trans hf)
    case coming => simp [State.seedReception, hb]
    case slotByte =>
      intro k n
      have hseed : (s.rdByte.seedReception len).slotByte k n = s.slotByte k n := s.slotByte_rdByte k n
      refine (State.slotByte_memWrite_slot ..).trans ?_
      rw [hseed, ← List.nil_append [len], State.slotAfter_append]
      simp
  case active => rfl
  case count => simp [State.seedReception]
  case total => simp [State.seedReception]
  case sum => simp [State.seedReception, xorSum_singleton]

/-- A frame byte that does not end a wrong header is received, and the reception goes on (rule R89). -/
theorem Receiving.receiveByte_next {s₀ s : State} {len b : Byte} {got coming : List Byte}
    (h : Receiving s₀ s len got (b :: coming)) (hlt : got.length < rxTotal s₀.cfg len)
    (hok : got.length = 2 → xorSum (got ++ [b]) = 0xFF) : Receiving s₀ s.receiveByte len (got ++ [b]) coming := by
  have hrx : s.rxByte = b := State.rxByte_cons h.coming
  have hgood : ¬ (s.byteCount = 2 ∧ s.chkAcc ^^^ b ≠ 0xFF) := fun hbad =>
    hbad.2 (by rw [h.sum, ← xorSum_append]; exact hok (h.count.symm.trans hbad.1))
  rw [State.receiveByte_eq, if_pos (by rwa [h.count, h.total]), hrx, if_neg hgood]
  obtain ⟨hcfg, hin, hfree, hcoming, hbyte⟩ := h.toSlotHolds.acceptByte h.count
  refine ⟨⟨hcfg, hin, hfree, hcoming, hbyte⟩, ?_, ?_, ?_, ?_⟩
  · simpa using h.active
  · simp [h.count]
  · simpa using h.total
  · simp [h.sum, xorSum_append]

/-- The third byte is received; the reception goes on exactly if the header's sum is 0xFF (rule R79). -/
theorem Receiving.receiveByte_header {s₀ s : State} {len b : Byte} {got coming : List Byte}
    (h : Receiving s₀ s len got (b :: coming)) (htwo : got.length = 2) (hlt : got.length < rxTotal s₀.cfg len) :
    s.receiveByte.protocolState = (if xorSum (got ++ [b]) = 0xFF then .receiveActive else .receiveIdle) ∧
      SlotHolds s₀ s.receiveByte (got ++ [b]) coming := by
  split
  next hok =>
    have hnext := h.receiveByte_next hlt fun _ => hok
    exact ⟨hnext.active, hnext.toSlotHolds⟩
  next hbad =>
    have hrx : s.rxByte = b := State.rxByte_cons h.coming
    have hreject : s.byteCount = 2 ∧ s.chkAcc ^^^ b ≠ 0xFF := ⟨h.count.trans htwo, by rwa [h.sum, ← xorSum_append]⟩
    rw [State.receiveByte_eq, if_pos (by rwa [h.count, h.total]), hrx, if_pos hreject]
    exact ⟨rfl, (h.toSlotHolds.acceptByte h.count).resetPath⟩

/-- The bytes of a slot that has received a header. -/
theorem State.slotAfter_header (s : State) (len typ sum : Byte) (k : BitVec 1) (n : Nat) :
    s.slotAfter [len, typ, sum] k n = if k = s.bufferIn ∧ n = 0 then len else if k = s.bufferIn ∧ n = 1 then typ
      else if k = s.bufferIn ∧ n = 2 then sum else s.slotByte k n := by
  by_cases hk : k = s.bufferIn
  · match n with
    | 0 | 1 | 2 =>
      rw [State.slotAfter, if_pos ⟨hk, by omega⟩]
      simp [hk]
    | n + 3 => simp [State.slotAfter]
  · simp [State.slotAfter, hk]

/-- Settles O34: the length byte begins a reception, the type byte goes on with it, and the third byte decides. -/
theorem headerAcceptedExactlyIfSumIsFF : Obligations.HeaderAcceptedExactlyIfSumIsFF := by
  refine ⟨fun s len typ sum rest hcfg hf hb => ?_, headerXor_eq_iff,
    fun len typ => ⟨chk len typ, (headerXor_eq_iff ..).mpr rfl, fun sum => (headerXor_eq_iff ..).mp⟩⟩
  have htotal : 2 < rxTotal s.cfg len := by
    obtain ⟨_, hover, _⟩ := hcfg
    unfold rxTotal
    omega
  have hfirst := State.receiveLength_receiving hf hb
  have hsecond := hfirst.receiveByte_next (Nat.lt_of_succ_lt htotal) (by simp)
  obtain ⟨hstate, hthird⟩ := hsecond.receiveByte_header rfl htotal
  refine ⟨_, _, _, rfl, rfl, rfl, ?_, hthird.free, hthird.bufferIn, hthird.coming, fun k n => ?_⟩
  · simpa only [List.cons_append, List.nil_append, xorSum_header] using hstate
  · exact (hthird.slotByte k n).trans (s.slotAfter_header len typ sum k n)

end Sys2Proof.Machine
end

section
/-! A whole reception (rules R84, R90, R96): ready events, one per byte of the total and one more, take a frame with an accepted header
into a Free slot and complete it. -/

namespace Sys2Proof.Machine

open Sys2Proof

/-! ### What a receive transition leaves alone -/

@[simp] theorem State.acceptByte_inHandler (s : State) (b : Byte) : (s.acceptByte b).inHandler = s.inHandler := by
  rw [State.acceptByte_eq]

@[simp] theorem State.acceptByte_statusAnswers (s : State) (b : Byte) : (s.acceptByte b).statusAnswers = s.statusAnswers := by
  rw [State.acceptByte_eq]

@[simp] theorem State.receiveLength_inHandler (s : State) : s.receiveLength.inHandler = s.inHandler := by
  simp only [State.receiveLength]
  split <;> simp [State.seedReception]

@[simp] theorem State.receiveLength_statusAnswers (s : State) : s.receiveLength.statusAnswers = s.statusAnswers := by
  simp only [State.receiveLength]
  split <;> simp [State.seedReception]

@[simp] theorem State.receiveByte_inHandler (s : State) : s.receiveByte.inHandler = s.inHandler := by
  simp only [State.receiveByte]
  split_ifs <;> simp [State.completeReception]

@[simp] theorem State.receiveByte_statusAnswers (s : State) : s.receiveByte.statusAnswers = s.statusAnswers := by
  simp only [State.receiveByte]
  split_ifs <;> simp [State.completeReception]

/-! ### The ready event -/

/-- A ready event in ReceiveIdle is one H_RXIDLE after the status read (rules R67, R85). -/
theorem step_receiveIdle {s : State} (hh : s.inHandler = true) (hp : s.protocolState = .receiveIdle)
    (hr : readyIn s.cfg s.statusWord = true) : step s = .next s.rdStatus.receiveLength := by
  rw [step_of_inHandler hh, runHandler, State.handlerInstr, hp, hr]
  rfl

/-- A ready event in ReceiveActive is one H_RXACTIVE after the status read (rules R67, R85). -/
theorem step_receiveActive {s : State} (hh : s.inHandler = true) (hp : s.protocolState = .receiveActive)
    (hr : readyIn s.cfg s.statusWord = true) : step s = .next s.rdStatus.receiveByte := by
  rw [step_of_inHandler hh, runHandler, State.handlerInstr, hp, hr]
  rfl

/-- A status read is no part of the reception. -/
theorem Receiving.rdStatus {s₀ s : State} {len : Byte} {got coming : List Byte} (h : Receiving s₀ s len got coming) :
    Receiving s₀ s.rdStatus len got coming := by
  rw [State.rdStatus_eq]
  obtain ⟨⟨hcfg, hin, hfree, hcoming, hbyte⟩, hactive, hcount, htotal, hsum⟩ := h
  exact ⟨⟨hcfg, hin, hfree, hcoming, hbyte⟩, hactive, hcount, htotal, hsum⟩

/-! ### To the end -/

/-- The reception of `got`, begun in `s₀`, is complete (rule R90). -/
structure ReceptionEnd (s₀ t : State) (got : List Byte) : Prop where
  idle : t.protocolState = .receiveIdle
  complete : t.slotStatus s₀.bufferIn = .complete
  flipped : t.bufferIn = s₀.bufferIn ^^^ 1
  slotByte : ∀ k n, t.slotByte k n = s₀.slotAfter got k n

/-- The event after the last byte completes the slot; the byte it reads is dropped (rules R89, R90). -/
theorem Receiving.receiveByte_end {s₀ s : State} {len : Byte} {got coming : List Byte} (h : Receiving s₀ s len got coming)
    (hall : got.length = rxTotal s₀.cfg len) : ReceptionEnd s₀ s.receiveByte got := by
  rw [State.receiveByte_eq, if_neg (by rw [h.count, h.total, hall]; exact lt_irrefl _)]
  have hin : s.rdByte.bufferIn = s₀.bufferIn := s.rdByte_bufferIn.trans h.bufferIn
  refine ⟨rfl, ?_, congrArg (· ^^^ 1) hin, fun k n => ?_⟩
  · refine (State.slotStatus_setSlotStatus ..).trans ?_
    rw [hin, if_pos rfl]
  · refine (State.byteAt_setSlotStatus ..).trans ?_
    exact (s.slotByte_rdByte k n).trans (h.slotByte k n)

/-- Ready events, one per byte left and one more, run a reception with an accepted header to its end. -/
theorem Receiving.steps_end {s₀ s : State} {len : Byte} {got bs rest : List Byte} {ws : List Nat}
    (h : Receiving s₀ s len got (bs ++ rest)) (hh : s.inHandler = true) (hw : AnswersReady s ws) (hlen : ws.length = bs.length + 1)
    (hall : (got ++ bs).length = rxTotal s₀.cfg len) (hheader : xorSum ((got ++ bs).take 3) = 0xFF) :
    ∃ t, steps (bs.length + 1) s = .next t ∧ ReceptionEnd s₀ t (got ++ bs) := by
  induction bs generalizing s got ws with
  | nil =>
    obtain ⟨w, ws, rfl⟩ := List.exists_cons_of_length_eq_add_one hlen
    rw [List.append_nil] at hall ⊢
    exact ⟨_, steps_succ (step_receiveActive hh h.active hw.readyIn_statusWord) 0, h.rdStatus.receiveByte_end hall⟩
  | cons b bs ih =>
    obtain ⟨w, ws, rfl⟩ := List.exists_cons_of_length_eq_add_one hlen
    have hstep := step_receiveActive hh h.active hw.readyIn_statusWord
    rw [List.append_cons] at hall hheader ⊢
    have hlt : got.length < rxTotal s₀.cfg len := by
      simp only [List.length_append, List.length_singleton] at hall
      omega
    have hok (htwo : got.length = 2) : xorSum (got ++ [b]) = 0xFF := by
      rwa [List.take_left' (by simp [htwo])] at hheader
    obtain ⟨t, hrun, ht⟩ := ih (h.rdStatus.receiveByte_next hlt hok) (by simpa using hh) (hw.tail (by simp) (by simp))
      (Nat.succ.inj hlen) hall hheader
    exact ⟨t, (steps_succ hstep _).trans hrun, ht⟩

/-- Ready events, one per byte of the total and one more, take a frame with an accepted header into the Free slot. -/
theorem State.steps_receive {s : State} {len : Byte} {frame rest : List Byte} {ws : List Nat} (hh : s.inHandler = true)
    (hp : s.protocolState = .receiveIdle) (hf : s.slotStatus s.bufferIn = .free) (hb : s.byteAnswers = frame ++ rest)
    (hw : AnswersReady s ws) (hlen : ws.length = frame.length + 1) (hfirst : frame.head? = some len)
    (hall : frame.length = rxTotal s.cfg len) (hheader : xorSum (frame.take 3) = 0xFF) :
    ∃ t, steps (frame.length + 1) s = .next t ∧ ReceptionEnd s.rdStatus t frame := by
  obtain ⟨bs, rfl⟩ := List.head?_eq_some_iff.mp hfirst
  obtain ⟨w, ws, rfl⟩ := List.exists_cons_of_length_eq_add_one hlen
  have hstep := step_receiveIdle hh hp hw.readyIn_statusWord
  have hbegin : Receiving s.rdStatus s.rdStatus.receiveLength len [len] (bs ++ rest) :=
    State.receiveLength_receiving (by simpa [State.slotStatus] using hf) (by simpa using hb)
  obtain ⟨t, hrun, ht⟩ := hbegin.steps_end (by simpa using hh) (hw.tail (by simp) (by simp)) (Nat.succ.inj hlen)
    (by simpa using hall) hheader
  exact ⟨t, (steps_succ hstep _).trans hrun, ht⟩

/-! ### The frame of a packet -/

/-- What a reception of a packet counts: header, payload, and of the trailer the `RX_HEADER_OVERHEAD - 3` bytes that the total reaches
(rules R84, R96). -/
def receivedFrame (cfg : Config) (typ len : Byte) (payload : List Byte) : List Byte :=
  len :: typ :: chk len typ :: (payload ++ List.replicate (cfg.rxHeaderOverhead - 3) cfg.trailerByte)

theorem receivedFrame_length {cfg : Config} (hcfg : cfg.Valid) (typ : Byte) {len : Byte} {payload : List Byte}
    (hpay : payload.length = len.toNat) : (receivedFrame cfg typ len payload).length = rxTotal cfg len := by
  obtain ⟨_, hover, _⟩ := hcfg
  simp only [receivedFrame, rxTotal, List.length_cons, List.length_append, List.length_replicate]
  omega

/-- A transmitter sends at least the trailer bytes that the reception counts. -/
theorem receivedFrame_prefix {cfg : Config} (hcfg : cfg.Valid) (typ len : Byte) (payload : List Byte) :
    receivedFrame cfg typ len payload <+: [len, typ, chk len typ] ++ payload ++ List.replicate cfg.trailerLen cfg.trailerByte := by
  obtain ⟨_, _, ⟨_, htrailer⟩, _⟩ := hcfg
  obtain ⟨m, hm⟩ := Nat.exists_eq_add_of_le (by omega : cfg.rxHeaderOverhead - 3 ≤ cfg.trailerLen)
  exact ⟨List.replicate m cfg.trailerByte, by simp [receivedFrame, hm]⟩

theorem receivedFrame_header (cfg : Config) (typ len : Byte) (payload : List Byte) :
    xorSum ((receivedFrame cfg typ len payload).take 3) = 0xFF :=
  (xorSum_header ..).trans ((headerXor_eq_iff ..).mpr rfl)

theorem receivedFrame_payload (cfg : Config) (typ len : Byte) {payload : List Byte} {i : Nat} (hi : i < payload.length) :
    (receivedFrame cfg typ len payload)[3 + i]? = some payload[i] := by
  rw [receivedFrame, Nat.add_comm, List.getElem?_cons_succ, List.getElem?_cons_succ, List.getElem?_cons_succ,
    List.getElem?_append_left hi, List.getElem?_eq_getElem hi]

/-- Settles O53: the Chip delivers the packet's frame, whose header is accepted. -/
theorem roundTrip : Obligations.RoundTrip := by
  intro s typ len payload rest ws more hcfg hh hp hf hpay hcap hbytes hans hlen hready
  have hall := receivedFrame_length hcfg typ hpay
  obtain ⟨trailer, htrailer⟩ := receivedFrame_prefix hcfg typ len payload
  have hfed : s.byteAnswers = receivedFrame s.cfg typ len payload ++ (trailer ++ rest) := by
    rw [← List.append_assoc, htrailer]
    exact hbytes
  have hw : AnswersReady s ws := ⟨⟨more, hans.symm⟩, fun w hw => bne_iff_ne.mpr (hready w hw)⟩
  obtain ⟨t, hrun, hidle, hcomplete, hflip, hbyte⟩ :=
    State.steps_receive hh hp hf hfed hw (by rw [hlen, hall, rxTotal]) rfl hall (receivedFrame_header ..)
  rw [s.rdStatus_bufferIn] at hcomplete hflip
  have hslot {n : Nat} {b : Byte} (hb : (receivedFrame s.cfg typ len payload)[n]? = some b) (hroom : n < 3 + s.cfg.capacity) :
      t.slotByte s.bufferIn n = b := by
    rw [← s.rdStatus_bufferIn, hbyte]
    exact State.slotAfter_of_getElem? _ hb (by rwa [s.rdStatus_cfg])
  refine ⟨t, ?_, hidle, hcomplete, hflip, hslot rfl (by omega), hslot rfl (by omega), hslot rfl (by omega),
    fun i hi => hslot (receivedFrame_payload _ _ _ hi) (by omega)⟩
  rw [← hrun, hall, rxTotal]

end Sys2Proof.Machine
end

section
/-! The Handler's loop (rules R85 to R87, R92): an iteration reads the status word, whose ready bit and `protocol_state` select the
transition; two of the transitions, H_NONE and H_RSVD, are one shared operation each. -/

namespace Sys2Proof.Machine

open Sys2Proof

/-! ### The transition selected -/

/-- With the ready bit clear every key is H_NONE's (rule R67). -/
theorem decodeHev_hevKey_false (p : ProtocolState) : decodeHev (hevKey false p) = .hNone := by
  cases p <;> rfl

theorem readyIn_eq_false_iff (cfg : Config) (w : Nat) : readyIn cfg w = false ↔ w &&& cfg.readyMask = 0 := bne_eq_false_iff_eq

/-- Settles O6: the ready bit decides between H_NONE and the four ready keys, one for each protocol state. -/
theorem eventKeySelectsTransition : Obligations.EventKeySelectsTransition := by
  intro s
  rw [State.handlerInstr]
  split
  next hclear => rw [(readyIn_eq_false_iff ..).mpr hclear, decodeHev_hevKey_false]
  next hset =>
    have hready : readyIn s.cfg s.statusWord = true := bne_iff_ne.mpr hset
    rw [hready]
    cases s.protocolState <;> rfl

/-- Settles O39: the step is the Handler's, whose status read is the draw of the answer and its event. -/
theorem stepRunsOneTransition : Obligations.StepRunsOneTransition := by
  intro s hh
  rw [step_of_inHandler hh, runHandler, State.rdStatus_eq_takeStatus]

/-! ### H_NONE and H_RSVD -/

/-- Settles O28: H_NONE is the return from the Handler. -/
theorem noEventEndsTheLoop : Obligations.NoEventEndsTheLoop :=
  fun s => congrArg Host.Outcome.next s.leaveHandler_eq

/-- Settles O33: H_RSVD is the reset path. -/
theorem reservedStateTakesResetPath : Obligations.ReservedStateTakesResetPath :=
  fun s => congrArg Host.Outcome.next s.resetPath_eq

end Sys2Proof.Machine
end

section
/-! One event of a reception or a transmission (rules R88, R89, R91): what H_RXIDLE, H_RXACTIVE and H_TX write, and that they write
nothing else. -/

namespace Sys2Proof.Machine

open Sys2Proof

/-! ### H_RXIDLE -/

/-- A write into a slot changes raw slot bytes only (rule R38). -/
theorem State.memWrite_slotSpace_eq (s : State) (k : BitVec 1) (a : Nat) (b : Byte) : s.memWrite (slotSpace k) a b = { s with
    raw0 := (s.memWrite (slotSpace k) a b).raw0, raw1 := (s.memWrite (slotSpace k) a b).raw1 } := by
  unfold slotSpace
  split <;> rfl

/-- The length byte read, seeded and counted, whatever becomes of it (rule R88). -/
theorem State.seedReception_rdByte_eq (s : State) : s.rdByte.seedReception s.rxByte = { s.takeByte with
    chkAcc := s.rxByte, byteCount := 1, totalBytes := s.rxByte.toNat + s.cfg.rxHeaderOverhead
    trace := s.trace ++ [.rdByte s.rxByte] } := by
  simp [State.seedReception, State.rdByte_eq_takeByte, rxTotal]

/-- The length byte with no Free slot (rule R88). -/
theorem State.receiveLength_of_not_free {s : State} (hf : s.slotStatus s.bufferIn ≠ .free) :
    s.receiveLength = (s.rdByte.seedReception s.rxByte).resetPath := by
  have hin : (s.rdByte.seedReception s.rxByte).bufferIn = s.bufferIn := s.rdByte_bufferIn
  have hbusy : (s.rdByte.seedReception s.rxByte).slotStatus s.bufferIn ≠ .free := by
    rwa [← s.slotStatus_rdByte] at hf
  simp only [State.receiveLength, hin, hbusy, if_false]

/-- The slot bytes once the length byte is stored (rule R88). -/
theorem State.slotByte_receiveLength_of_free {s : State} (hf : s.slotStatus s.bufferIn = .free) (k : BitVec 1) (n : Nat) :
    s.receiveLength.slotByte k n = if k = s.bufferIn ∧ n = 0 then s.rxByte else s.slotByte k n := by
  have hseed : (s.rdByte.seedReception s.rxByte).slotByte k n = s.slotByte k n := s.slotByte_rdByte k n
  rw [State.receiveLength_of_free hf, ← hseed]
  exact State.slotByte_memWrite_slot ..

/-- Settles O29: the two branches of H_RXIDLE, with the byte read as its draw and its event. -/
theorem lengthByteReceived : Obligations.LengthByteReceived := by
  intro s
  split
  next hfree =>
    refine ⟨s.receiveLength, rfl, ?_, State.slotByte_receiveLength_of_free hfree⟩
    rw [State.receiveLength_of_free hfree, State.seedReception_rdByte_eq, State.memWrite_slotSpace_eq]
  next hbusy =>
    show Host.Outcome.next s.receiveLength = _
    rw [State.receiveLength_of_not_free hbusy, State.seedReception_rdByte_eq, State.resetPath_eq, List.append_assoc]
    rfl

/-! ### H_RXACTIVE -/

/-- A frame byte read, summed and stored where the slot has room (rule R89). -/
theorem State.acceptByte_rdByte_eq (s : State) : s.rdByte.acceptByte s.rxByte = { s.takeByte with
    chkAcc := s.chkAcc ^^^ s.rxByte
    raw0 := (s.rdByte.acceptByte s.rxByte).raw0, raw1 := (s.rdByte.acceptByte s.rxByte).raw1
    trace := s.trace ++ [.rdByte s.rxByte] } := by
  rw [State.acceptByte_eq, State.rdByte_chkAcc, State.rdByte_eq_takeByte]

/-- The slot bytes once a byte before the total has been taken, whether or not it ends a wrong header (rule R89). -/
theorem State.slotByte_receiveByte_of_lt {s : State} (hlt : s.byteCount < s.totalBytes) (k : BitVec 1) (n : Nat) :
    s.receiveByte.slotByte k n =
      if s.byteCount < 3 + s.cfg.capacity ∧ k = s.bufferIn ∧ n = s.byteCount then s.rxByte else s.slotByte k n := by
  have hstored := s.rdByte.slotByte_acceptByte s.rxByte k n
  simp only [State.rdByte_byteCount, State.rdByte_cfg, State.rdByte_bufferIn, State.slotByte_rdByte] at hstored
  rw [← hstored, State.receiveByte_eq, if_pos hlt]
  split <;> rfl

/-- The completion of a reception (rules R89, R90). -/
theorem State.completeReception_eq (s : State) : s.completeReception = { s with
    status0 := if s.bufferIn = 0 then .complete else s.status0
    status1 := if s.bufferIn = 0 then s.status1 else .complete
    bufferIn := s.bufferIn ^^^ 1, protocolState := .receiveIdle
    trace := s.trace ++ [.queueClear, .queueArm] } := by
  rw [State.completeReception, State.resetPath_eq, State.setSlotStatus]
  split <;> rfl

/-- Settles O30: the three branches of H_RXACTIVE, with the byte read as its draw and its event. -/
theorem frameByteReceived : Obligations.FrameByteReceived := by
  intro s
  split
  next hlt =>
    refine ⟨s.receiveByte, rfl, ?_, State.slotByte_receiveByte_of_lt hlt⟩
    rw [State.receiveByte_eq, if_pos hlt]
    split
    · rw [State.acceptByte_rdByte_eq, State.resetPath_eq, List.append_assoc]
      rfl
    · rw [State.acceptByte_rdByte_eq]
  next hge =>
    show Host.Outcome.next s.receiveByte = _
    rw [State.receiveByte_eq, if_neg hge, State.completeReception_eq, State.rdByte_eq_takeByte]
    simp

/-! ### H_TX -/

/-- The transmit sequence of a length within CAPACITY, at every offset: past the total it goes on with the trailer byte (rule R80). -/
theorem State.txSeq_of_le_capacity {s : State} (hcap : (s.byteAt .txbuf 2).toNat ≤ s.cfg.capacity) (n : Nat) :
    s.txSeq n = some (if n < 5 + (s.byteAt .txbuf 2).toNat then s.byteAt .txbuf n else s.cfg.trailerByte) := by
  by_cases hn : n < (s.byteAt .txbuf 2).toNat + s.cfg.txOverhead
  · exact transmitSequence s n hcap hn
  · have htrailer : ¬ n < 5 + (s.byteAt .txbuf 2).toNat := by
      unfold Config.txOverhead at hn
      omega
    rw [State.txSeq, if_neg htrailer, if_neg htrailer]

/-- The completion of a transmission (rule R91). -/
theorem State.completeTransmission_eq (s : State) : s.completeTransmission = { s with
    txRequest := .free, protocolState := .receiveIdle
    trace := s.trace ++ [.modeRx, .wrByte s.cfg.dummyByte, .queueClear, .queueArm] } := by
  rw [State.completeTransmission, State.resetPath_eq]
  simp [State.modeRx, State.wrByte, State.emit]

/-- Settles O31: within CAPACITY the transmit sequence has a byte at every offset, so H_TX has its two branches and no fault. -/
theorem transmitStep : Obligations.TransmitStep := by
  intro s hcap
  show execHTx s = _
  split
  next hlt => exact execHTx_of_txSeq hlt (State.txSeq_of_le_capacity hcap _)
  next hge => rw [execHTx, if_neg hge, State.completeTransmission_eq]

end Sys2Proof.Machine
end

section
/-! What the Handler never writes (rule R98): the frame of each update of a transition, and their composition. -/

namespace Sys2Proof.Machine

open Sys2Proof

/-- The Handler's write rights from `s` to `t`: what rule R98 denies it has not changed. -/
structure HandlerRights (s t : State) : Prop where
  bufferOut : t.bufferOut = s.bufferOut
  freeCount : t.freeCount = s.freeCount
  txbuf : t.txbuf = s.txbuf
  responses : t.responses = s.responses
  otherBytes : ∀ n, t.slotByte (s.bufferIn ^^^ 1) n = s.slotByte (s.bufferIn ^^^ 1) n
  otherTag : t.slotStatus (s.bufferIn ^^^ 1) = s.slotStatus (s.bufferIn ^^^ 1)
  freesNoSlot : ∀ k, t.slotStatus k = .free → s.slotStatus k = .free
  queuesNothing : t.txRequest = .occupied → s.txRequest = .occupied
  trace : ∃ es, t.trace = s.trace ++ es ∧ .modeTx ∉ es ∧ ∀ w, .wrCfg w ∉ es

/-- Two updates, the first of which leaves `buffer_in`, and with it which slot is the other one. -/
theorem HandlerRights.trans {s t u : State} (h : HandlerRights s t) (hin : t.bufferIn = s.bufferIn) (h' : HandlerRights t u) :
    HandlerRights s u where
  bufferOut := h'.bufferOut.trans h.bufferOut
  freeCount := h'.freeCount.trans h.freeCount
  txbuf := h'.txbuf.trans h.txbuf
  responses := h'.responses.trans h.responses
  otherBytes n := (hin ▸ h'.otherBytes n).trans (h.otherBytes n)
  otherTag := (hin ▸ h'.otherTag).trans h.otherTag
  freesNoSlot k hk := h.freesNoSlot k (h'.freesNoSlot k hk)
  queuesNothing ht := h.queuesNothing (h'.queuesNothing ht)
  trace := by
    obtain ⟨es, he, hmode, hcfg⟩ := h.trace
    obtain ⟨es', he', hmode', hcfg'⟩ := h'.trace
    refine ⟨es ++ es', by rw [he', he, List.append_assoc], ?_, fun w => ?_⟩
    · exact fun hm => (List.mem_append.mp hm).elim hmode hmode'
    · exact fun hm => (List.mem_append.mp hm).elim (hcfg w) (hcfg' w)

/-! ### Updates -/

/-- The registers the framer and the sequencer share are the Handler's. -/
theorem HandlerRights.setFramer (s : State) (p : ProtocolState) (n m : Nat) (acc : Byte) :
    HandlerRights s { s with protocolState := p, byteCount := n, totalBytes := m, chkAcc := acc } :=
  ⟨rfl, rfl, rfl, rfl, fun _ => rfl, rfl, fun _ => id, id, [], by simp⟩

theorem State.rdByte_handlerRights (s : State) : HandlerRights s s.rdByte := by
  constructor <;> simp

theorem State.leaveHandler_handlerRights (s : State) : HandlerRights s s.leaveHandler :=
  ⟨rfl, rfl, rfl, rfl, fun _ => rfl, rfl, fun _ => id, id, [.intUnmask], by simp⟩

theorem State.resetPath_handlerRights (s : State) : HandlerRights s s.resetPath :=
  ⟨rfl, rfl, rfl, rfl, fun _ => rfl, rfl, fun _ => id, id, [.queueClear, .queueArm], by simp⟩

theorem State.wrByte_handlerRights (s : State) (b : Byte) : HandlerRights s (s.wrByte b) :=
  ⟨rfl, rfl, rfl, rfl, fun _ => rfl, rfl, fun _ => id, id, [.wrByte b], by simp⟩

/-- A byte stored in the slot being filled is not in the other slot. -/
theorem State.memWrite_handlerRights (s : State) (a : Nat) (b : Byte) :
    HandlerRights s (s.memWrite (slotSpace s.bufferIn) a b) := by
  constructor
  case otherBytes =>
    intro n
    rw [State.slotByte_memWrite_slot, if_neg fun h => bit_flip_ne _ h.1]
  all_goals simp [slotSpace_ne_txbuf]

/-! ### Transitions -/

/-- H_RXIDLE (rule R88). -/
theorem State.receiveLength_handlerRights (s : State) : HandlerRights s s.receiveLength := by
  have hseed : HandlerRights s (s.rdByte.seedReception s.rxByte) :=
    s.rdByte_handlerRights.trans s.rdByte_bufferIn (.setFramer ..)
  have hin : (s.rdByte.seedReception s.rxByte).bufferIn = s.bufferIn := s.rdByte_bufferIn
  by_cases hf : s.slotStatus s.bufferIn = .free
  · rw [State.receiveLength_of_free hf, ← hin]
    exact (hseed.trans hin (State.memWrite_handlerRights ..)).trans (by simp [hin]) (.setFramer ..)
  · rw [State.receiveLength_of_not_free hf]
    exact hseed.trans hin (State.resetPath_handlerRights _)

theorem State.acceptByte_handlerRights (s : State) (b : Byte) : HandlerRights s (s.acceptByte b) := by
  have hsum : HandlerRights s { s with chkAcc := s.chkAcc ^^^ b } := .setFramer ..
  simp only [State.acceptByte]
  split
  · exact hsum.trans rfl (State.memWrite_handlerRights ..)
  · exact hsum

/-- The completed slot is the one at `buffer_in`, and no slot is freed (rule R90). -/
theorem State.completeReception_handlerRights (s : State) : HandlerRights s s.completeReception := by
  have htag (k : BitVec 1) : s.completeReception.slotStatus k = if k = s.bufferIn then .complete else s.slotStatus k :=
    s.slotStatus_setSlotStatus ..
  constructor
  case otherBytes => exact fun n => s.byteAt_setSlotStatus ..
  case otherTag => rw [htag, if_neg (bit_flip_ne _)]
  case freesNoSlot =>
    intro k hk
    rw [htag] at hk
    split at hk
    · cases hk
    · exact hk
  all_goals simp [State.completeReception]

/-- H_RXACTIVE (rule R89). -/
theorem State.receiveByte_handlerRights (s : State) : HandlerRights s s.receiveByte := by
  have hstored : HandlerRights s (s.rdByte.acceptByte s.rxByte) :=
    s.rdByte_handlerRights.trans s.rdByte_bufferIn (State.acceptByte_handlerRights ..)
  have hin : (s.rdByte.acceptByte s.rxByte).bufferIn = s.bufferIn := by simp
  rw [State.receiveByte_eq]
  split_ifs
  · exact hstored.trans hin (State.resetPath_handlerRights _)
  · exact hstored.trans hin (.setFramer ..)
  · exact s.rdByte_handlerRights.trans s.rdByte_bufferIn (State.completeReception_handlerRights _)

/-- H_TX (rule R91). -/
theorem execHTx_handlerRights {s t : State} (h : execHTx s = .next t) : HandlerRights s t := by
  unfold execHTx at h
  split at h
  · split at h <;> cases h
    exact (s.wrByte_handlerRights _).trans rfl (.setFramer ..)
  · cases h
    rw [State.completeTransmission_eq]
    exact ⟨rfl, rfl, rfl, rfl, fun _ => rfl, rfl, fun _ => id, nofun, _, rfl, by simp, by simp⟩

/-- Settles O35: each transition is within the Handler's write rights. -/
theorem handlerNeverWrites : Obligations.HandlerNeverWrites := by
  intro i s t hi ht
  have ⟨hout, hfree, hbuf, hresp, hbytes, htag, hslots, hreq, htrace⟩ : HandlerRights s t := by
    obtain rfl | rfl | rfl | rfl | rfl := hi
    · cases ht
      exact s.leaveHandler_handlerRights
    · cases ht
      exact s.receiveLength_handlerRights
    · cases ht
      exact s.receiveByte_handlerRights
    · exact execHTx_handlerRights ht
    · cases ht
      exact s.resetPath_handlerRights
  exact ⟨hout, hfree, hbuf, hresp, hbytes, htag, hslots, hreq, htrace⟩

end Sys2Proof.Machine
end

section
/-! One TICK that nothing cuts (rules R100 to R106): what each of T1 to T4 makes of the rest of the run, and the outcome of the whole. -/

namespace Sys2Proof.Machine

open Sys2Proof

/-! ### The steps -/

theorem runMicros_point (ms : List Micro) (s : State) : runMicros none (.point :: ms) s = runMicros none ms s :=
  runMicros_uncut .point ms s

theorem runMicros_tickIdle (ms : List Micro) (s : State) : runMicros none (.tickIdle :: ms) s =
    if s.protocolState = .receiveIdle then runMicros none ms s else .next (s.respond .ok 0) := by
  rw [runMicros_uncut]
  by_cases h : s.protocolState = .receiveIdle <;> simp [microStep, tickIdleStep, h]

theorem runMicros_tickSense (ms : List Micro) (s : State) : runMicros none (.tickSense :: ms) s =
    if carrierIn s.cfg s.statusWord then .next ({ s.senseCarrier with freeCount := s.cfg.channelFreeMax }.respond .ok 0)
    else runMicros none ms s.senseCarrier := by
  rw [runMicros_uncut]
  by_cases h : carrierIn s.cfg s.statusWord <;> simp [microStep, tickSenseStep, h]

theorem runMicros_tickCount (ms : List Micro) (s : State) : runMicros none (.tickCount :: ms) s =
    if s.freeCount = 0 then runMicros none ms s else .next ({ s with freeCount := s.freeCount - 1 }.respond .ok 0) := by
  rw [runMicros_uncut]
  by_cases h : s.freeCount = 0 <;> simp [microStep, tickCountStep, h]

/-- T4 is the last step: a queued packet is armed, and TICK answers OK either way (rules R100, R104). -/
theorem runMicros_tickArm (s : State) : runMicros none [.tickArm, .raise .ok] s =
    .next ((if s.txRequest = .occupied then s.armTransmission else s).respond .ok 0) := by
  rw [runMicros_uncut]
  by_cases h : s.txRequest = .occupied <;> simp [microStep, tickArmStep, h, runMicros_uncut]

theorem State.senseCarrier_eq_takeStatus (s : State) : s.senseCarrier = { s.takeStatus with
    intMasked := false, trace := s.trace ++ [.intMask, .rdStatus s.statusWord, .intUnmask] } := by
  rw [State.senseCarrier_eq, State.takeStatus_eq]

theorem carrierIn_eq_true_iff (cfg : Config) (w : Nat) : carrierIn cfg w = true ↔ w &&& cfg.carrierMask ≠ 0 := bne_iff_ne

theorem carrierIn_eq_false_iff (cfg : Config) (w : Nat) : carrierIn cfg w = false ↔ w &&& cfg.carrierMask = 0 := bne_eq_false_iff_eq

/-! ### The whole of a TICK -/

/-- Uncut, in a build that transmits, TICK is its program (rule R100). -/
theorem exec_tick_through {s : State} (hi : s.initDone = true) (hrx : s.cfg.rxOnly = false) (hr : s.RunsThrough) :
    exec .tick s = runMicros none (tickProgram s.cfg) s.opStart := by
  show execTick s = _
  rw [execTick, hrx]
  exact hostOperation_through hi hr _

/-- The coming TICK runs through from ReceiveIdle, after INIT, in a build that transmits. -/
structure TickFromIdle (s : State) : Prop where
  initDone : s.initDone = true
  transmits : s.cfg.rxOnly = false
  through : s.RunsThrough
  idle : s.protocolState = .receiveIdle

/-- From ReceiveIdle TICK passes T1 (rule R101). -/
theorem TickFromIdle.exec_tick {s : State} (h : TickFromIdle s) : exec .tick s =
    runMicros none ((if s.cfg.caEnabled then [.tickSense, .point, .tickCount, .point] else []) ++ [.tickArm, .raise .ok])
      s.opStart := by
  rw [exec_tick_through h.initDone h.transmits h.through, tickProgram, List.append_assoc]
  simp only [List.cons_append, List.nil_append, runMicros_point, runMicros_tickIdle, State.opStart_protocolState, h.idle, if_true]

/-- The state after a TICK that has sensed, has not armed, and leaves the countdown at `n` (rules R102, R103). -/
def State.counted (s : State) (n : Nat) : State := { s.opStart.takeStatus with
  freeCount := n, intMasked := false
  trace := s.trace ++ [.intMask, .rdStatus s.opStart.statusWord, .intUnmask]
  responses := s.responses ++ [⟨.ok, 0⟩] }

@[simp] theorem State.counted_cfg (s : State) (n : Nat) : (s.counted n).cfg = s.cfg := by simp [State.counted]
@[simp] theorem State.counted_protocolState (s : State) (n : Nat) : (s.counted n).protocolState = s.protocolState := by simp [State.counted]
@[simp] theorem State.counted_txRequest (s : State) (n : Nat) : (s.counted n).txRequest = s.txRequest := by simp [State.counted]
@[simp] theorem State.counted_freeCount (s : State) (n : Nat) : (s.counted n).freeCount = n := rfl
@[simp] theorem State.counted_initDone (s : State) (n : Nat) : (s.counted n).initDone = s.initDone := by simp [State.counted]
@[simp] theorem State.counted_statusAnswers (s : State) (n : Nat) : (s.counted n).statusAnswers = s.statusAnswers.tail := by simp [State.counted]
@[simp] theorem State.counted_schedule (s : State) (n : Nat) : (s.counted n).schedule = s.schedule.tail := by simp [State.counted]

theorem State.respond_senseCarrier_opStart (s : State) (n : Nat) :
    { s.opStart.senseCarrier with freeCount := n }.respond .ok 0 = s.counted n := by
  simp [State.senseCarrier_eq_takeStatus, State.respond, State.counted]

/-- With collision avoidance TICK goes on to sense, count and arm (rules R102 to R104). -/
theorem TickFromIdle.exec_tick_sensing {s : State} (h : TickFromIdle s) (hca : s.cfg.caEnabled = true) : exec .tick s =
    if carrierIn s.cfg s.opStart.statusWord then .next (s.counted s.cfg.channelFreeMax)
    else if s.freeCount = 0 then
      .next ((if s.txRequest = .occupied then s.opStart.senseCarrier.armTransmission else s.opStart.senseCarrier).respond .ok 0)
    else .next (s.counted (s.freeCount - 1)) := by
  have hfree : s.opStart.senseCarrier.freeCount = s.freeCount := by rw [State.senseCarrier_eq, State.opStart_freeCount]
  have htx : s.opStart.senseCarrier.txRequest = s.txRequest := by rw [State.senseCarrier_eq, State.opStart_txRequest]
  rw [h.exec_tick, if_pos hca]
  simp only [List.cons_append, List.nil_append, runMicros_point, runMicros_tickSense, runMicros_tickCount, runMicros_tickArm,
    State.opStart_cfg, State.respond_senseCarrier_opStart]
  rw [hfree, htx]

/-- Rule R102: a carrier reading reloads the countdown. -/
theorem TickFromIdle.exec_tick_of_carrier {s : State} (h : TickFromIdle s) (hca : s.cfg.caEnabled = true)
    (hw : carrierIn s.cfg s.opStart.statusWord = true) : exec .tick s = .next (s.counted s.cfg.channelFreeMax) := by
  rw [h.exec_tick_sensing hca, if_pos hw]

/-- Rule R103: on a clear channel a countdown that is not zero goes down. -/
theorem TickFromIdle.exec_tick_of_clear {s : State} (h : TickFromIdle s) (hca : s.cfg.caEnabled = true)
    (hw : carrierIn s.cfg s.opStart.statusWord = false) (hfree : s.freeCount ≠ 0) :
    exec .tick s = .next (s.counted (s.freeCount - 1)) := by
  rw [h.exec_tick_sensing hca, if_neg (Bool.eq_false_iff.mp hw), if_neg hfree]

/-- Rule R104: on a clear channel with the countdown at zero, a queued packet is armed. -/
theorem TickFromIdle.exec_tick_of_zero {s : State} (h : TickFromIdle s) (hca : s.cfg.caEnabled = true)
    (hw : carrierIn s.cfg s.opStart.statusWord = false) (hfree : s.freeCount = 0) : exec .tick s =
      .next ((if s.txRequest = .occupied then s.opStart.senseCarrier.armTransmission else s.opStart.senseCarrier).respond .ok 0) := by
  rw [h.exec_tick_sensing hca, if_neg (Bool.eq_false_iff.mp hw), if_pos hfree]

/-! ### The obligations about one TICK -/

/-- Settles O16: T1 ends the TICK before anything is written. -/
theorem tickOutsideIdleDoesNothing : Obligations.TickOutsideIdleDoesNothing := by
  intro s hi hrx hr hp
  rw [exec_tick_through hi hrx hr, tickProgram, List.append_assoc]
  simp only [List.cons_append, runMicros_point, runMicros_tickIdle, State.opStart_protocolState, hp, if_false]

/-- Settles O17: T2 ends the TICK. -/
theorem tickCarrierReloads : Obligations.TickCarrierReloads :=
  fun _ hi hrx hr hp hca hw =>
    TickFromIdle.exec_tick_of_carrier ⟨hi, hrx, hr, hp⟩ hca ((carrierIn_eq_true_iff ..).mpr hw)

/-- Settles O18: T3 ends the TICK. -/
theorem tickCountsDown : Obligations.TickCountsDown :=
  fun _ hi hrx hr hp hca hw hfree =>
    TickFromIdle.exec_tick_of_clear ⟨hi, hrx, hr, hp⟩ hca ((carrierIn_eq_false_iff ..).mpr hw) hfree

/-- Settles O19: T4 ends the TICK, with the arming exactly if a packet is queued. -/
theorem tickArmsQueuedPacket : Obligations.TickArmsQueuedPacket := by
  intro s hi hrx hr hp hca hw hfree
  have hlen : s.opStart.senseCarrier.byteAt .txbuf 2 = s.byteAt .txbuf 2 := by
    rw [State.senseCarrier_eq, State.opStart_eq]
    rfl
  rw [TickFromIdle.exec_tick_of_zero ⟨hi, hrx, hr, hp⟩ hca ((carrierIn_eq_false_iff ..).mpr hw) hfree]
  split
  next harm =>
    rw [State.armTransmission_eq, hlen]
    simp [State.senseCarrier_eq_takeStatus, State.respond, txTotal, Config.txOverhead]
  next hnone => simp [State.senseCarrier_eq_takeStatus, State.respond]

/-- Settles O20: without T2 and T3, T1 is followed by T4. -/
theorem tickWithoutCollisionAvoidance : Obligations.TickWithoutCollisionAvoidance := by
  intro s hi hrx hr hp hca
  have hlen : s.opStart.byteAt .txbuf 2 = s.byteAt .txbuf 2 := by
    rw [State.opStart_eq]
    rfl
  rw [TickFromIdle.exec_tick ⟨hi, hrx, hr, hp⟩, hca]
  refine (runMicros_tickArm _).trans (congrArg _ ?_)
  rw [State.opStart_txRequest]
  split
  next harm =>
    rw [State.armTransmission_eq, hlen]
    simp [State.respond, txTotal, Config.txOverhead]
  next hnone => rfl

end Sys2Proof.Machine
end

section
/-! Runs of uncut TICKs in ReceiveIdle that all sense the same (rule R105): each takes one answer and one choice, and what it leaves is
ready for the next. -/

namespace Sys2Proof.Machine

open Sys2Proof

theorem ticks_succ {s t : State} (h : exec .tick s = .next t) (n : Nat) : ticks (n + 1) s = ticks n t := by
  rw [ticks, h]

/-- From ReceiveIdle, with collision avoidance, the coming TICKs are uncut and sense the words `ws`, with the carrier bit as `carrier`
says in each. -/
structure SensesAhead (carrier : Bool) (s : State) (ws : List Nat) : Prop where
  initDone : s.initDone = true
  transmits : s.cfg.rxOnly = false
  sensing : s.cfg.caEnabled = true
  idle : s.protocolState = .receiveIdle
  answers : ws <+: s.statusAnswers
  bit : ∀ w ∈ ws, carrierIn s.cfg (w % 2 ^ s.cfg.statusW) = carrier
  uncut : List.replicate ws.length none <+: s.schedule

theorem SensesAhead.tickFromIdle {b : Bool} {s : State} {w : Nat} {ws : List Nat} (h : SensesAhead b s (w :: ws)) :
    TickFromIdle s := by
  obtain ⟨cs, hcs⟩ := h.uncut
  exact ⟨h.initDone, h.transmits, .inr (State.choice_cons hcs.symm), h.idle⟩

/-- The word the first TICK senses. -/
theorem SensesAhead.carrierIn_statusWord {b : Bool} {s : State} {w : Nat} {ws : List Nat} (h : SensesAhead b s (w :: ws)) :
    carrierIn s.cfg s.opStart.statusWord = b := by
  obtain ⟨rest, hrest⟩ := h.answers
  rw [State.statusWord_cons (s.opStart_statusAnswers.trans hrest.symm), State.opStart_cfg]
  exact h.bit w List.mem_cons_self

/-- A TICK that does not arm leaves the others ahead. -/
theorem SensesAhead.counted {b : Bool} {s : State} {w : Nat} {ws : List Nat} (h : SensesAhead b s (w :: ws)) (n : Nat) :
    SensesAhead b (s.counted n) ws := by
  obtain ⟨hi, hrx, hca, hp, ⟨rest, hrest⟩, hbit, cs, hcs⟩ := h
  refine ⟨by simpa, by simpa, by simpa, by simpa, ⟨rest, ?_⟩, ?_, cs, ?_⟩
  · rw [State.counted_statusAnswers, ← hrest]
    rfl
  · rw [State.counted_cfg]
    exact fun v hv => hbit v (List.mem_cons_of_mem w hv)
  · rw [State.counted_schedule, ← hcs]
    rfl

/-- The TICKs that sense a carrier: each reloads the countdown (rule R102). -/
theorem SensesAhead.ticks_carrier {s : State} {ws : List Nat} (h : SensesAhead true s ws) :
    ∃ t, ticks ws.length s = .next t ∧ t.protocolState = .receiveIdle ∧ t.txRequest = s.txRequest ∧
      t.freeCount = if ws = [] then s.freeCount else s.cfg.channelFreeMax := by
  induction ws generalizing s with
  | nil => exact ⟨s, rfl, h.idle, rfl, rfl⟩
  | cons w ws ih =>
    obtain ⟨t, hrun, hidle, htx, hfree⟩ := ih (h.counted s.cfg.channelFreeMax)
    refine ⟨t, ?_, hidle, htx.trans (s.counted_txRequest _), ?_⟩
    · exact (ticks_succ (h.tickFromIdle.exec_tick_of_carrier h.sensing h.carrierIn_statusWord) _).trans hrun
    · rw [hfree, State.counted_cfg]
      split <;> rfl

/-- On a clear channel `n` TICKs only lower a countdown of at least `n` (rule R103). -/
theorem SensesAhead.ticks_clear {n : Nat} {s : State} {ws : List Nat} (h : SensesAhead false s ws) (hn : n ≤ ws.length)
    (hfree : n ≤ s.freeCount) :
    ∃ t, (∀ k, ticks (n + k) s = ticks k t) ∧ SensesAhead false t (ws.drop n) ∧ t.txRequest = s.txRequest ∧
      t.freeCount = s.freeCount - n := by
  induction n generalizing s ws with
  | zero => exact ⟨s, fun k => by rw [Nat.zero_add], h, rfl, rfl⟩
  | succ n ih =>
    obtain _ | ⟨w, ws⟩ := ws
    case nil => exact absurd hn (Nat.not_succ_le_zero n)
    have hstep := h.tickFromIdle.exec_tick_of_clear h.sensing h.carrierIn_statusWord (by omega)
    obtain ⟨t, hrun, hleft, htx, hcount⟩ :=
      ih (h.counted (s.freeCount - 1)) (Nat.le_of_succ_le_succ hn) (by rw [State.counted_freeCount]; omega)
    refine ⟨t, fun k => ?_, hleft, htx.trans (s.counted_txRequest _), ?_⟩
    · rw [Nat.add_right_comm, ticks_succ hstep, hrun]
    · rw [hcount, State.counted_freeCount]
      omega

/-- A queued packet is armed by a TICK that senses a clear channel with the countdown at zero (rule R104). -/
theorem SensesAhead.ticks_arm {s : State} {w : Nat} {ws : List Nat} (h : SensesAhead false s (w :: ws)) (hfree : s.freeCount = 0)
    (htx : s.txRequest = .occupied) :
    ∃ t, ticks 1 s = .next t ∧ t.protocolState = .transmitting ∧ t.byteCount = 0 := by
  have harm := h.tickFromIdle.exec_tick_of_zero h.sensing h.carrierIn_statusWord hfree
  rw [if_pos htx, State.armTransmission_eq] at harm
  exact ⟨_, ticks_succ harm 0, rfl, rfl⟩

/-- Settles O21: CHANNEL_FREE_MAX TICKs count down to zero, and one word is left for the TICK that arms. -/
theorem countingLaw : Obligations.CountingLaw := by
  intro s ws rest cs hi hrx hca hp htx hfree hws hlen hclear hsched
  have hahead : SensesAhead false s ws := ⟨hi, hrx, hca, hp, ⟨rest, hws.symm⟩,
    fun w hw => (carrierIn_eq_false_iff ..).mpr (hclear w hw), ⟨cs, hlen ▸ hsched.symm⟩⟩
  refine ⟨fun n hn => ?_, ?_⟩
  · obtain ⟨t, hrun, hleft, -, hcount⟩ := hahead.ticks_clear (n := n) (by omega) (by omega)
    exact ⟨t, hrun 0, hleft.idle, hfree ▸ hcount⟩
  · obtain ⟨t, hrun, hleft, htx', hcount⟩ := hahead.ticks_clear (n := s.cfg.channelFreeMax) (by omega) hfree.ge
    rw [List.drop_eq_getElem_cons (by omega)] at hleft
    rw [hrun]
    exact hleft.ticks_arm (by omega) (htx'.trans htx)

/-- Settles O22: at every one of the TICKs the countdown is reloaded and nothing is armed. -/
theorem carrierHoldsOff : Obligations.CarrierHoldsOff := by
  intro s ws rest cs hi hrx hca hp hws hcarrier hsched
  have hahead : SensesAhead true s ws := ⟨hi, hrx, hca, hp, ⟨rest, hws.symm⟩,
    fun w hw => (carrierIn_eq_true_iff ..).mpr (hcarrier w hw), ⟨cs, hsched.symm⟩⟩
  obtain ⟨t, hrun, hidle, htx, hfree⟩ := hahead.ticks_carrier
  exact ⟨t, hrun, hidle, htx, fun hne => hfree.trans (if_neg hne)⟩

end Sys2Proof.Machine
end

section
/-! One ENQUEUE that nothing cuts (rules R110, R111): its two tests, the payload copy, and the writes of the header and of the tag. -/

namespace Sys2Proof.Machine

open Sys2Proof

/-! ### The steps -/

/-- What ENQUEUE does after the payload copy: length, type, checksum, tag and response (rule R110). -/
def queueProgram (typ len : Byte) : List Micro :=
  [.txStore 2 len, .point, .txStore 3 typ, .point, .txStore 4 (chk len typ), .point, .enqTag, .raise .ok]

/-- ENQUEUE is its tests, the copy, and `queueProgram`. -/
theorem enqueueProgram_eq {typ len : Byte} {payload : List Byte} (h : payload.length ≤ len.toNat) :
    enqueueProgram typ len payload = .point :: .enqCheck len :: (copyProgram 5 payload ++ queueProgram typ len) := by
  rw [enqueueProgram, List.take_of_length_le h, List.append_assoc]
  rfl

theorem runMicros_enqCheck (len : Byte) (ms : List Micro) (s : State) : runMicros none (.enqCheck len :: ms) s =
    if s.txRequest ≠ .free then .next (s.respond .busy 0)
    else if s.cfg.capacity < len.toNat then .next (s.respond .tooLarge 0)
    else runMicros none ms s := by
  rw [runMicros_uncut, microStep, enqCheckStep]
  split_ifs <;> rfl

theorem runMicros_txStore {off : Nat} {s : State} (h : off < s.size .txbuf) (b : Byte) (ms : List Micro) :
    runMicros none (.txStore off b :: ms) s = runMicros none ms (s.memWrite .txbuf off b) := by
  rw [runMicros_uncut, microStep, txStoreStep, if_pos h]

/-- The state that `queueProgram` leaves. -/
def State.queuePacket (s : State) (typ len : Byte) : State :=
  { ((s.memWrite .txbuf 2 len).memWrite .txbuf 3 typ).memWrite .txbuf 4 (chk len typ) with txRequest := .occupied }.respond .ok 0

/-- The four last writes stay inside TXBUF whatever the capacity (rules R37, R41). -/
theorem runMicros_queueProgram (typ len : Byte) (s : State) :
    runMicros none (queueProgram typ len) s = .next (s.queuePacket typ len) := by
  have inside (u : State) (off : Nat) (h : off < 5) : off < u.size .txbuf := Nat.lt_add_right u.cfg.capacity h
  rw [queueProgram, runMicros_txStore (inside s 2 (by decide)), runMicros_point,
    runMicros_txStore (inside _ 3 (by decide)), runMicros_point, runMicros_txStore (inside _ 4 (by decide)), runMicros_point]
  rfl

/-- `queuePacket` writes TXBUF, `tx_request` and the response, and nothing else. -/
theorem State.queuePacket_eq (s : State) (typ len : Byte) : s.queuePacket typ len = { s with
    txbuf := (s.queuePacket typ len).txbuf, txRequest := .occupied, responses := s.responses ++ [⟨.ok, 0⟩] } := rfl

/-- Of TXBUF, `queuePacket` writes the three header bytes. -/
theorem State.byteAt_queuePacket (s : State) (typ len : Byte) (a : Nat) : (s.queuePacket typ len).byteAt .txbuf a =
    if a = 4 then chk len typ else if a = 3 then typ else if a = 2 then len else s.byteAt .txbuf a := by
  show (((s.memWrite .txbuf 2 len).memWrite .txbuf 3 typ).memWrite .txbuf 4 (chk len typ)).byteAt .txbuf a = _
  simp only [State.byteAt_memWrite, true_and]

/-- Outside the header, the bytes of TXBUF stand. -/
theorem State.byteAt_queuePacket_of_outside (s : State) (typ len : Byte) {a : Nat} (h : a < 2 ∨ 5 ≤ a) :
    (s.queuePacket typ len).byteAt .txbuf a = s.byteAt .txbuf a := by
  rw [State.byteAt_queuePacket, if_neg (by omega), if_neg (by omega), if_neg (by omega)]

/-! ### The whole of an ENQUEUE -/

/-- Uncut, in a build that transmits, ENQUEUE is its tests, then the copy and the header (rule R110). -/
theorem exec_enqueue_through {s : State} {typ len : Byte} {payload : List Byte} (hi : s.initDone = true)
    (hrx : s.cfg.rxOnly = false) (hr : s.RunsThrough) (hlen : payload.length = len.toNat) : exec (.enqueue typ len payload) s =
      if s.txRequest ≠ .free then .next (s.opStart.respond .busy 0)
      else if s.cfg.capacity < len.toNat then .next (s.opStart.respond .tooLarge 0)
      else runMicros none (copyProgram 5 payload ++ queueProgram typ len) s.opStart := by
  have hprog : exec (.enqueue typ len payload) s = runMicros none (enqueueProgram typ len payload) s.opStart := by
    show execEnqueue typ len payload s = _
    rw [execEnqueue, hrx]
    exact hostOperation_through hi hr _
  rw [hprog, enqueueProgram_eq hlen.le, runMicros_point, runMicros_enqCheck, State.opStart_txRequest, State.opStart_cfg]

/-- Settles O23: the payload stands past the header, so the copy and the header writes do not touch each other's bytes. -/
theorem enqueueOutcome : Obligations.EnqueueOutcome := by
  intro s typ len payload hi hrx hr hlen
  rw [exec_enqueue_through hi hrx hr hlen]
  split_ifs with hbusy hlarge
  · rfl
  · rfl
  · have hroom : 5 + payload.length ≤ s.opStart.size .txbuf := by
      rw [State.size, State.opStart_cfg]
      omega
    obtain ⟨m, hcopy, hnew, hold⟩ := runMicros_copyProgram payload 5 (queueProgram typ len) s.opStart hroom
    have hrun := hcopy.trans (runMicros_queueProgram typ len _)
    refine ⟨_, hrun, ?_, fun i h => ?_, ?_, ?_, ?_, fun a ha => ?_⟩
    · rw [← s.opStart_responses]
      exact State.queuePacket_eq ..
    · rw [State.byteAt_queuePacket_of_outside _ _ _ (by omega)]
      exact hnew i h
    · exact State.byteAt_queuePacket ..
    · exact State.byteAt_queuePacket ..
    · exact State.byteAt_queuePacket ..
    · have hout : a < 5 ∨ 5 + payload.length ≤ a := by omega
      rw [State.byteAt_queuePacket_of_outside _ _ _ (by omega), hold a hout]
      exact State.byteAt_congr s.opStart_txbuf s.opStart_raw0 s.opStart_raw1 .txbuf a

end Sys2Proof.Machine
end

section
/-! The consumption operations that nothing cuts (rules R114 to R119): a read ends with its one step; RX_CLEAR has two writes. -/

namespace Sys2Proof.Machine

open Sys2Proof

/-! ### The slot at `buffer_out` when the operation starts -/

@[simp] theorem State.slotStatus_opStart (s : State) (k : BitVec 1) : s.opStart.slotStatus k = s.slotStatus k := by
  simp [State.slotStatus]

@[simp] theorem State.slotByte_opStart (s : State) (k : BitVec 1) (n : Nat) : s.opStart.slotByte k n = s.slotByte k n :=
  State.byteAt_congr s.opStart_txbuf s.opStart_raw0 s.opStart_raw1 (slotSpace k) n

/-! ### The reads -/

/-- An uncut operation that consists of one step ends where that step ends. -/
theorem hostOperation_ended {s t : State} {m : Micro} (hi : s.initDone = true) (hr : s.RunsThrough)
    (hm : microStep m s.opStart = .ended t) : hostOperation [.point, m] s = .next t := by
  rw [hostOperation_through hi hr, runMicros_point, runMicros_uncut, hm]

/-- On a Complete slot a read answers with the slot's byte (rules R115 to R117). -/
theorem hostOperation_read_of_complete {s : State} {m : Micro} {n : Nat} (hi : s.initDone = true) (hr : s.RunsThrough)
    (hm : microStep m s.opStart = readCompleteStep n s.opStart) (hc : s.slotStatus s.bufferOut = .complete) :
    hostOperation [.point, m] s = .next (s.opStart.respond .ok (s.slotByte s.bufferOut n)) :=
  hostOperation_ended hi hr (by simp [hm, readCompleteStep, hc])

/-- On any other slot it answers with a free byte (rule R119). -/
theorem hostOperation_read_of_not_complete {s : State} {m : Micro} {n : Nat} (hi : s.initDone = true) (hr : s.RunsThrough)
    (hm : microStep m s.opStart = readCompleteStep n s.opStart) (hc : s.slotStatus s.bufferOut ≠ .complete) :
    hostOperation [.point, m] s =
      .next ({ s.opStart with draws := s.opStart.draws + 1 }.respond .ok (Config.freeAccess s.opStart.draws)) :=
  hostOperation_ended hi hr (by simp [hm, readCompleteStep, hc])

/-- Within the storage RX_DATA is a read at the payload's raw offset (rules R38, R117). -/
theorem rxDataStep_of_lt {s : State} {index : Byte} (h : index.toNat < s.cfg.capacity) :
    rxDataStep index s = readCompleteStep (3 + index.toNat) s := by
  rw [rxDataStep, if_neg (Nat.not_le.mpr h)]

/-- Settles O24: the statement's four bytes are the tag codes (rule R20). -/
theorem rxStatusReturnsTag : Obligations.RxStatusReturnsTag := by
  intro s hi hr
  have hrun : exec .rxStatus s = .next (s.opStart.respond .ok (s.slotStatus s.bufferOut).code) :=
    hostOperation_ended hi hr (by simp [microStep])
  rw [hrun]
  cases s.slotStatus s.bufferOut <;> rfl

/-- Settles O25: both are reads, at raw offsets 0 and 1. -/
theorem rxLenAndType : Obligations.RxLenAndType := by
  intro s hi hr
  split
  next hc => exact ⟨hostOperation_read_of_complete hi hr rfl hc, hostOperation_read_of_complete hi hr rfl hc⟩
  next hc => exact ⟨⟨_, hostOperation_read_of_not_complete hi hr rfl hc⟩, _, hostOperation_read_of_not_complete hi hr rfl hc⟩

/-- Settles O26: the index is bounded before the slot is looked at; within the bound RX_DATA is a read. -/
theorem rxDataReadsPayload : Obligations.RxDataReadsPayload := by
  intro s index hi hr
  split
  next hout => exact hostOperation_ended hi hr (by simp [microStep, rxDataStep, hout])
  next hin =>
    have hread : microStep (.rxData index) s.opStart = readCompleteStep (3 + index.toNat) s.opStart :=
      rxDataStep_of_lt (by rw [State.opStart_cfg]; omega)
    split
    next hc => exact hostOperation_read_of_complete hi hr hread hc
    next hc => exact ⟨_, hostOperation_read_of_not_complete hi hr hread hc⟩

/-! ### RX_CLEAR -/

theorem runMicros_rxClearTag (ms : List Micro) (s : State) : runMicros none (.rxClearTag :: ms) s =
    if s.slotStatus s.bufferOut = .complete then runMicros none ms (s.setSlotStatus s.bufferOut .free)
    else .next (s.respond .notComplete 0) := by
  rw [runMicros_uncut, microStep, rxClearTagStep]
  split_ifs <;> rfl

/-- The second write is the last step: the flip, then the answer OK (rule R118). -/
theorem runMicros_rxClearFlip (s : State) : runMicros none [.rxClearFlip, .raise .ok] s =
    .next ({ s with bufferOut := s.bufferOut ^^^ 1 }.respond .ok 0) := rfl

/-- A tag write changes the tag of the slot it names, and nothing else. -/
theorem State.setSlotStatus_eq (s : State) (k : BitVec 1) (t : Tag) : s.setSlotStatus k t = { s with
    status0 := if k = 0 then t else s.status0, status1 := if k = 0 then s.status1 else t } := by
  unfold State.setSlotStatus
  split <;> rfl

/-- Settles O27: the test either ends the operation or frees the slot whose index is then flipped. -/
theorem rxClearOutcome : Obligations.RxClearOutcome := by
  intro s hi hr
  have hrun : exec .rxClear s = runMicros none rxClearProgram s.opStart := hostOperation_through hi hr _
  rw [hrun, rxClearProgram, runMicros_point, runMicros_rxClearTag, runMicros_point, runMicros_rxClearFlip,
    State.slotStatus_opStart, State.opStart_bufferOut]
  split
  next hc => simp [State.setSlotStatus_eq, State.respond]
  next hc => rfl

end Sys2Proof.Machine
end

section
/-! INIT and POLL (rules R120 to R122): what the one INIT leaves, what is refused before it and after it, and a POLL of a polling build,
which is one whole invocation of the Handler. -/

namespace Sys2Proof.Machine

open Sys2Proof

/-! ### INIT -/

/-- The whole of INIT but its response (rule R120). -/
theorem State.bringUp_eq (s : State) : s.bringUp = { s with
    protocolState := .receiveIdle
    byteCount := Config.freeCounter s.draws % 2 ^ s.cfg.countW
    totalBytes := Config.freeCounter (s.draws + 1) % 2 ^ s.cfg.countW
    bufferIn := 0, bufferOut := 0, txRequest := .free, chkAcc := Config.freeChk (s.draws + 2)
    freeCount := s.cfg.channelFreeMax, intMasked := false
    txbuf := Memory.set (Memory.set s.txbuf 0 s.cfg.sync0) 1 s.cfg.sync1
    status0 := .free, status1 := .free, initDone := true, draws := s.draws + 3
    trace := s.trace ++ [.intMask] ++ s.cfg.initSeq.map .wrCfg ++ [.intUnmask] } := by
  rw [State.bringUp, State.writeConfig_eq]
  rfl

/-- INIT leaves the sync pattern in TXBUF and every other byte of the buffers as it was (rules R39, R120). -/
theorem State.byteAt_bringUp (s : State) (sp : Space) (a : Nat) : s.bringUp.byteAt sp a =
    if sp = .txbuf ∧ a = 1 then s.cfg.sync1 else if sp = .txbuf ∧ a = 0 then s.cfg.sync0 else s.byteAt sp a := by
  rw [← State.byteAt_memWrite, ← State.byteAt_memWrite, State.bringUp_eq]
  exact State.byteAt_congr rfl rfl rfl sp a

theorem State.bringUp_counters_lt (s : State) :
    s.bringUp.byteCount < 2 ^ s.cfg.countW ∧ s.bringUp.totalBytes < 2 ^ s.cfg.countW := by
  rw [State.bringUp_eq]
  exact ⟨Nat.mod_lt _ (by positivity), Nat.mod_lt _ (by positivity)⟩

theorem execInit_of_not_initDone {s : State} (h : s.initDone = false) : execInit s = .next (s.bringUp.respond .ok 0) := by
  rw [execInit, h]
  rfl

/-- Settles O10: the answer is `State.bringUp` with the response; the two counters are cut to their width. -/
theorem initBringsUp : Obligations.InitBringsUp := by
  intro s hi
  obtain ⟨hbyte, htotal⟩ := s.bringUp_counters_lt
  refine ⟨s.bringUp.respond .ok 0, execInit_of_not_initDone hi, ?_, hbyte, htotal, ?_, s.byteAt_bringUp .txbuf 1⟩
  · rw [State.bringUp_eq]
    rfl
  · exact s.byteAt_bringUp .txbuf 0

/-- Settles O12: both refusals are the test of `initDone` with which the operations begin, and a preemption point makes it too. -/
theorem initFirstAndOnce : Obligations.InitFirstAndOnce := by
  refine ⟨fun s hi => ?_, fun s hi => ⟨?_, fun i hop => ?_⟩⟩
  · exact if_pos hi
  · simp [State.admitsHandler, hi]
  · rw [exec_mainlineOp hop, hi]
    rfl

/-! ### POLL -/

/-- After INIT in a polling build POLL is the entry of the Handler (rule R122). -/
theorem exec_poll_of_polling {s : State} (hi : s.initDone = true) (hp : s.cfg.polling = true) : exec .poll s = .next s.polled := by
  rw [exec_mainlineOp (by simp [IsMainlineOp]), if_pos hi, if_pos ⟨rfl, hp⟩]

/-- Settles O13: POLL is the entry of the Handler, which writes the mask and its event. -/
theorem pollEntersHandler : Obligations.PollEntersHandler :=
  fun _ => exec_poll_of_polling

/-- A status read without the ready bit ends the invocation (rules R85, R86). -/
theorem step_no_event {s : State} (hh : s.inHandler = true) (hw : s.statusWord &&& s.cfg.readyMask = 0) :
    step s = .next s.rdStatus.leaveHandler := by
  rw [step_of_inHandler hh, runHandler, eventKeySelectsTransition, if_pos hw]
  rfl

/-- An operation of which only the response is due gives it; in a polling build nothing cuts it (rules R122, R138). -/
theorem step_response_due {s : State} {rc : ResultCode} (hh : s.inHandler = false) (hm : s.mainline = [.raise rc])
    (hp : s.cfg.polling = true) : step s = .next (s.opStart.respond rc 0) := by
  rw [step_of_not_inHandler hh, runHost, hm]
  exact runMainline_through (.inl hp) _

/-- The return from an invocation that POLL entered and that read one status word. -/
theorem State.leaveHandler_rdStatus_polled (s : State) : s.polled.rdStatus.leaveHandler = { s.takeStatus with
    mainline := [.raise .ok], inHandler := false, intMasked := false
    trace := s.trace ++ [.intMask, .rdStatus s.statusWord, .intUnmask] } := by
  have hword : s.polled.statusWord = s.statusWord := rfl
  rw [State.leaveHandler_eq, State.rdStatus_eq_takeStatus, hword, State.polled, State.enterHandler_eq]
  simp [State.takeStatus_eq]

/-- Settles O14: POLL enters the Handler, the status read ends the invocation, and Mainline goes on with the response. -/
theorem pollWithoutEvent : Obligations.PollWithoutEvent := by
  intro s hi hp hw
  have hread : step s.polled = .next s.polled.rdStatus.leaveHandler := step_no_event rfl hw
  rw [State.leaveHandler_rdStatus_polled] at hread
  refine ⟨s.polled, _, _, exec_poll_of_polling hi hp, hread, step_response_due rfl rfl (by simpa using hp), ?_⟩
  simp [State.opStart_eq, State.takeStatus_eq, State.respond]

end Sys2Proof.Machine
end

section
/-! Where a Handler invocation starts (rules R49, R134, R137): at a preemption point of a host operation, or between two operations, if
the schedule says so there and the invocation is admitted. -/

namespace Sys2Proof.Machine

open Sys2Proof

theorem State.admitsHandler_iff (s : State) :
    s.admitsHandler = true ↔ s.initDone = true ∧ s.intMasked = false ∧ s.inHandler = false ∧ s.cfg.polling = false := by
  simp [State.admitsHandler, and_assoc]

theorem State.admitsHandler_opStart (s : State) : s.opStart.admitsHandler = s.admitsHandler := by
  simp [State.admitsHandler]

/-- Entering the Handler at the start of a stretch writes the mask and its event (rule R137). -/
theorem State.enterHandler_opStart (s : State) : s.opStart.enterHandler = { s.opStart with
    inHandler := true, intMasked := true, trace := s.trace ++ [.intMask] } := by
  rw [State.enterHandler_eq, State.opStart_trace]

/-! ### A host operation -/

/-- Every host operation starts at a preemption point (rule R49). -/
theorem hostProgram_starts_at_point (cfg : Config) (i : Instr) : ∃ ms, hostProgram cfg i = .point :: ms := by
  cases i
  case tick | enqueue =>
    simp only [hostProgram]
    split_ifs <;> exact ⟨_, rfl⟩
  all_goals exact ⟨_, rfl⟩

/-- After INIT a host operation but INIT and POLL is the stretch of its program. -/
theorem exec_eq_runMainline {i : Instr} (hop : IsMainlineOp i) (hpoll : i ≠ .poll) {s : State} (hi : s.initDone = true) :
    exec i s = runMainline (hostProgram s.cfg i) s := by
  rw [exec_mainlineOp hop, if_pos hi, if_neg (fun h => hpoll h.1)]

/-- A stretch that an admitted invocation cuts at its first point enters the Handler and keeps all its steps (rule R137). -/
theorem runMainline_cut_first {s : State} (hadm : s.admitsHandler = true) (hc : s.choice = some 0) (ms : List Micro) :
    runMainline (.point :: ms) s = .next { s.opStart with
      mainline := .point :: ms, inHandler := true, intMasked := true, trace := s.trace ++ [.intMask] } := by
  rw [runMainline, runMicros_cut ⟨rfl, hc, s.admitsHandler_opStart.trans hadm⟩, State.enterHandler_eq, State.opStart_trace]

/-- Settles O41: the operation is the stretch of its program, which starts at a point, and the invocation cuts it there. -/
theorem handlerEnteredAtAPoint : Obligations.HandlerEnteredAtAPoint := by
  intro i s hop hi hm hh hp hc
  have hmain : IsMainlineOp i := by
    simpa only [IsMainlineOp, or_assoc] using Or.inl (b := i = .poll) hop
  have hpoll : i ≠ .poll := by
    rintro rfl
    simp at hop
  obtain ⟨ms, hms⟩ := hostProgram_starts_at_point s.cfg i
  refine ⟨.point, ms, fun v hv hcfg => ?_, ?_⟩
  · rw [exec_eq_runMainline hmain hpoll hv, hcfg, hms]
  · rw [exec_eq_runMainline hmain hpoll hi, hms]
    exact runMainline_cut_first (s.admitsHandler_iff.mpr ⟨hi, hm, hh, hp⟩) hc ms

/-! ### The rest of a suspended operation, and no operation -/

/-- Settles O42: with no invocation in progress the step is Mainline's, which resumes the suspended operation. -/
theorem stepResumesMainline : Obligations.StepResumesMainline := by
  intro s m ms hh hm
  simp only [step_of_not_inHandler hh, runHost, hm]

/-- With no command presented the point between two operations is passed, cut or uncut (rules R49, R134). -/
theorem runIdle_eq (s : State) : runIdle s =
    .next (if s.choice = some 0 ∧ s.admitsHandler = true then s.opStart.enterHandler else s.opStart) := by
  unfold runIdle
  split
  next hc hadm => rw [if_pos ⟨hc, hadm⟩]
  next hnot => rw [if_neg (fun h => hnot h.1 h.2)]

/-- Settles O43: at rest with no command presented, the step passes the point between two operations. -/
theorem idleStep : Obligations.IdleStep := by
  intro s ⟨hh, hm⟩ hq
  have hadm : s.admitsHandler = true ↔ s.initDone = true ∧ s.intMasked = false ∧ s.cfg.polling = false := by
    simp [State.admitsHandler_iff, hh]
  have hrun : runHost s = runIdle s := by simp only [runHost, hm, hq]
  rw [step_of_not_inHandler hh, hrun, runIdle_eq, State.enterHandler_opStart]
  simp only [hadm]

end Sys2Proof.Machine
end

section
/-! A Chip that keeps answering ready (rule R140): each answer is one iteration of the Handler's loop, which does not end it. -/

namespace Sys2Proof.Machine

open Sys2Proof

/-- H_TX goes through, neither ends the invocation nor takes a status answer (rules R41, R91). -/
theorem Inv.execHTx_stays {s : State} (h : Inv s) (hp : s.protocolState = .transmitting) :
    ∃ t, Machine.execHTx s = .next t ∧ t.inHandler = s.inHandler ∧ t.statusAnswers = s.statusAnswers := by
  obtain hlt | hall := (h.send.count hp).lt_or_eq
  · obtain ⟨b, hb⟩ := Option.ne_none_iff_exists'.mp (h.txSeq_ne_none hp s.byteCount)
    exact ⟨_, execHTx_of_txSeq hlt hb, rfl, rfl⟩
  · exact ⟨_, execHTx_of_sent hall, by simp [State.completeTransmission], by simp [State.completeTransmission]⟩

/-- A ready event is a step that stays in the Handler and takes one status answer, whatever `protocol_state` is (rules R66, R85). -/
theorem Inv.step_ready {s : State} (h : Inv s) (hh : s.inHandler = true) (hr : readyIn s.cfg s.statusWord = true) :
    ∃ t, Machine.step s = .next t ∧ t.inHandler = true ∧ t.statusAnswers = s.statusAnswers.tail := by
  cases hp : s.protocolState with
  | receiveIdle => exact ⟨_, step_receiveIdle hh hp hr, by simpa using hh, by simp⟩
  | receiveActive => exact ⟨_, step_receiveActive hh hp hr, by simpa using hh, by simp⟩
  | transmitting =>
    have hread : Inv s.rdStatus := h.of_registers s.registers_rdStatus
    obtain ⟨t, ht, hin, hans⟩ := hread.execHTx_stays (s.rdStatus_protocolState.trans hp)
    exact ⟨t, (step_transmitting hh hp hr).trans ht, by simpa [hin] using hh, by simp [hans]⟩
  | reserved => exact absurd hp h.regs.protocolLegal

/-- As many ready events as the Chip answers stay in the Handler, and Mainline stays where it is (rules R48, R140). -/
theorem Inv.steps_ready {s : State} {ws : List Nat} (h : Inv s) (hh : s.inHandler = true) (hw : AnswersReady s ws) :
    ∃ t, steps ws.length s = .next t ∧ t.inHandler = true ∧ t.mainline = s.mainline := by
  induction ws generalizing s with
  | nil => exact ⟨s, rfl, hh, rfl⟩
  | cons w ws ih =>
    obtain ⟨u, hsu, hhu, hans⟩ := h.step_ready hh hw.readyIn_statusWord
    obtain ⟨t, hut, hht, hmain⟩ := ih (h.step hsu) hhu (hw.tail (step_cfg hsu) hans)
    exact ⟨t, (steps_succ hsu _).trans hut, hht, hmain.trans (handlerIsAtomic s u hh hsu).1⟩

/-- Settles O55: the answers are ready, and each is one more iteration of the loop. -/
theorem stuckReadyKeepsTheHandler : Obligations.StuckReadyKeepsTheHandler := by
  intro s ws rest h hh hans hready
  exact h.steps_ready hh ⟨⟨rest, hans.symm⟩, fun w hw => bne_iff_ne.mpr (hready w hw)⟩

end Sys2Proof.Machine
end

section
/-! Reset, INIT's frame, H_TX's fault and the reserved op codes (rules R34, R39, R71 a, R80, R147). -/

namespace Sys2Proof.Machine

open Sys2Proof

/-! ### Hardware reset -/

/-- After hardware reset nothing has been written to a buffer (rule R34). -/
@[simp] theorem State.mem_resetWith (c : Config) (sp : Space) : (State.resetWith c).mem sp = [] := by
  cases sp <;> rfl

/-- Settles O9: the reset table field by field; INIT, without which no invocation starts, has not been performed. -/
theorem hardwareReset : Obligations.HardwareReset := by
  intro c
  refine ⟨rfl, rfl, rfl, rfl, rfl, rfl, rfl, rfl, rfl, ?_, ⟨rfl, rfl⟩, fun sp a => ?_⟩
  · exact (initFirstAndOnce.2 _ rfl).1
  · simp [State.byteAt, Memory.get?]

/-! ### INIT -/

/-- INIT answers a next state only before the first INIT, and then it is the one of rule R120. -/
theorem execInit_next_iff {s t : State} : execInit s = .next t ↔ s.initDone = false ∧ t = s.bringUp.respond .ok 0 := by
  cases hi : s.initDone with
  | true => simp [execInit, hi]
  | false => simp [execInit_of_not_initDone hi, eq_comm]

/-- Settles O11: `State.bringUp` writes no slot byte, and of TXBUF offsets 0 and 1. -/
theorem initWritesOnlyTheSyncBytes : Obligations.InitWritesOnlyTheSyncBytes := by
  intro s t h
  obtain ⟨-, rfl⟩ := execInit_next_iff.mp h
  refine ⟨?_, ?_, fun a ha => ?_⟩
  · rw [State.respond_raw0, State.bringUp_eq]
  · rw [State.respond_raw1, State.bringUp_eq]
  · refine (s.byteAt_bringUp .txbuf a).trans ?_
    rw [if_neg (by omega), if_neg (by omega)]

/-! ### H_TX -/

/-- The transmit sequence has no byte exactly at an offset past TXBUF that the length byte still counts as payload (rules R35, R80). -/
theorem State.txSeq_eq_none_iff (s : State) (n : Nat) :
    s.txSeq n = none ↔ 5 + s.cfg.capacity ≤ n ∧ n < 5 + (s.byteAt .txbuf 2).toNat := by
  unfold State.txSeq State.memRead
  split
  next hbuf =>
    have hsize : s.size .txbuf = 5 + s.cfg.capacity := rfl
    simp [hsize, hbuf]
  next htrailer => simp [htrailer]

/-- H_TX faults exactly if a byte is due and the transmit sequence has none (rule R91). -/
theorem execHTx_eq_fault_iff (s : State) (f : Fault) : execHTx s = .fault f ↔
    s.byteCount < s.totalBytes ∧ s.txSeq s.byteCount = none ∧ f = .outsideBuffer .txbuf s.byteCount := by
  unfold execHTx
  split
  next hlt => cases s.txSeq s.byteCount <;> simp [hlt, eq_comm]
  next hge => simp [hge]

/-- Settles O32: H_TX lacks its byte exactly at the offsets where the transmit sequence has none. -/
theorem transmitFaultsOnlyOutsideTheBuffer : Obligations.TransmitFaultsOnlyOutsideTheBuffer := by
  intro s f
  show execHTx s = .fault f ↔ _
  rw [execHTx_eq_fault_iff, State.txSeq_eq_none_iff, and_assoc]

/-! ### A reserved op code -/

theorem runCommand_reservedOp {c : HostCommand} (h : c.op = 0 ∨ 0xA ≤ c.op.toNat) (s : State) :
    runCommand c s = illegalCommand s := by
  simp only [runCommand, fetchCommand, (decodeHcw_reservedOp_iff c).mpr h]

/-- Settles O40: the word decodes to no operation, and the ILLEGAL program runs uncut, before INIT because no point admits an
invocation. -/
theorem reservedOpAnswersIllegal : Obligations.ReservedOpAnswersIllegal := by
  intro s op a b p cs hop ⟨hh, hm⟩ hq hthrough
  have hres : HostCommand.op ⟨hcwWord op a b, p⟩ = 0 ∨ 0xA ≤ (HostCommand.op ⟨hcwWord op a b, p⟩).toNat := by
    rwa [HostCommand.op_hcwWord]
  rw [step_of_not_inHandler hh, runHost_command hm hq, runCommand_reservedOp hres]
  obtain hr | hi := hthrough
  · exact runMainline_through (s := { s with hostQueue := cs }) hr illegalProgram
  · exact illegalCommand_beforeInit hi

end Sys2Proof.Machine
end

section
/-! Hazard H1, the check-then-act window of TICK (rule R152): an invocation between T1 and T4 takes a length byte, and T4 arms over the
reception it began. -/

namespace Sys2Proof.Machine

open Sys2Proof

/-! ### TICK cut after T1 -/

theorem State.opStart_cons {s : State} {c : Option Nat} {cs : List (Option Nat)} (h : s.schedule = c :: cs) :
    s.opStart = { s with mainline := [], schedule := cs } := by
  rw [State.opStart, State.takeChoice, h]

/-- A point that admits an invocation, with the chosen point still ahead, is passed and counted (rule R134). -/
theorem runMicros_point_ahead {s : State} (hadm : s.admitsHandler = true) (k : Nat) (ms : List Micro) :
    runMicros (some (k + 1)) (.point :: ms) s = runMicros (some k) ms s := by
  rw [runMicros_step (by simp)]
  simp [microStep, nextChoice, hadm]

/-- In ReceiveIdle TICK goes on from T1 with the choice unchanged (rule R101). -/
theorem runMicros_tickIdle_go {s : State} (hp : s.protocolState = .receiveIdle) (c : Option Nat) (ms : List Micro) :
    runMicros c (.tickIdle :: ms) s = runMicros c ms s := by
  rw [runMicros_step (by simp)]
  simp [microStep, nextChoice, tickIdleStep, hp]

/-- What is left of a sensing TICK at the point after T1 (rule R100). -/
def tickAfterIdle : List Micro := [.point, .tickSense, .point, .tickCount, .point, .tickArm, .raise .ok]

theorem hostProgram_tick_of_caEnabled {cfg : Config} (hrx : cfg.rxOnly = false) (hca : cfg.caEnabled = true) :
    hostProgram cfg .tick = .point :: .tickIdle :: tickAfterIdle := by
  rw [hostProgram, hrx, tickProgram, hca]
  rfl

/-- A TICK cut at the point after T1 (rule R137); `cs` are the choices for the stretches after it. -/
def State.cutAfterIdle (s : State) (cs : List (Option Nat)) : State := { s with
  mainline := tickAfterIdle, schedule := cs, inHandler := true, intMasked := true, trace := s.trace ++ [.intMask] }

theorem exec_tick_cut_after_idle {s : State} {cs : List (Option Nat)} (hadm : s.admitsHandler = true)
    (hrx : s.cfg.rxOnly = false) (hca : s.cfg.caEnabled = true) (hp : s.protocolState = .receiveIdle)
    (hsched : s.schedule = some 1 :: cs) : exec .tick s = .next (s.cutAfterIdle cs) := by
  have hi : s.initDone = true := (s.admitsHandler_iff.mp hadm).1
  have hadm' : s.opStart.admitsHandler = true := s.admitsHandler_opStart.trans hadm
  rw [exec_eq_runMainline (.inl rfl) nofun hi, hostProgram_tick_of_caEnabled hrx hca, runMainline, State.choice_cons hsched,
    runMicros_point_ahead hadm', runMicros_tickIdle_go (s.opStart_protocolState.trans hp), tickAfterIdle,
    runMicros_cut ⟨rfl, rfl, hadm'⟩, State.opStart_cons hsched]
  rfl

/-! ### The invocation in the window -/

/-- The length byte `b` taken on the ready word `w`, and the reception begun (rules R85, R88); `m0` and `m1` are the slots' bytes. -/
def State.lengthByteTaken (s : State) (w : Nat) (b : Byte) (m0 m1 : Memory) : State := { s with
  protocolState := .receiveActive, byteCount := 1, totalBytes := b.toNat + s.cfg.rxHeaderOverhead, chkAcc := b
  raw0 := m0, raw1 := m1, statusAnswers := s.statusAnswers.tail, byteAnswers := s.byteAnswers.tail
  trace := s.trace ++ [.rdStatus (w % 2 ^ s.cfg.statusW)] ++ [.rdByte b] }

/-- A ready event in ReceiveIdle with a Free slot stores the length byte there, at offset 0 (rule R88). -/
theorem step_length_byte {s : State} {w : Nat} {ws : List Nat} {b : Byte} {bs : List Byte} (hh : s.inHandler = true)
    (hp : s.protocolState = .receiveIdle) (hf : s.slotStatus s.bufferIn = .free) (hb : s.byteAnswers = b :: bs)
    (hans : s.statusAnswers = w :: ws) (hready : (w % 2 ^ s.cfg.statusW) &&& s.cfg.readyMask ≠ 0) :
    ∃ m0 m1, step s = .next (s.lengthByteTaken w b m0 m1) ∧
      ∀ k n, (s.lengthByteTaken w b m0 m1).slotByte k n = if k = s.bufferIn ∧ n = 0 then b else s.slotByte k n := by
  have hword : s.statusWord = w % 2 ^ s.cfg.statusW := State.statusWord_cons hans
  have hstep : step s = exec .hRxIdle s.rdStatus := step_receiveIdle hh hp (bne_iff_ne.mpr (by rwa [hword]))
  have hread : s.rdStatus = { s with statusAnswers := ws, trace := s.trace ++ [.rdStatus (w % 2 ^ s.cfg.statusW)] } := by
    rw [State.rdStatus_eq_takeStatus, State.takeStatus_cons hans, hword]
  obtain ⟨q, hexec, hq, hbyte⟩ := (if_pos (by rwa [hread])).mp (lengthByteReceived s.rdStatus)
  rw [hread, State.takeByte_cons (by exact hb), State.rxByte_cons (by exact hb)] at hq
  rw [hread, State.rxByte_cons (by exact hb)] at hbyte
  have htook : s.lengthByteTaken w b q.raw0 q.raw1 = q := by
    rw [State.lengthByteTaken, hans, hb]
    exact hq.symm
  refine ⟨q.raw0, q.raw1, ?_⟩
  rw [htook]
  exact ⟨hstep.trans hexec, hbyte⟩

/-- The return from an invocation on the word `w`, which is not ready (rules R86, R138). -/
def State.returned (s : State) (w : Nat) : State := { s with
  inHandler := false, intMasked := false, statusAnswers := s.statusAnswers.tail
  trace := s.trace ++ [.rdStatus (w % 2 ^ s.cfg.statusW)] ++ [.intUnmask] }

theorem step_return {s : State} {w : Nat} {ws : List Nat} (hh : s.inHandler = true) (hans : s.statusAnswers = w :: ws)
    (hnone : (w % 2 ^ s.cfg.statusW) &&& s.cfg.readyMask = 0) : step s = .next (s.returned w) := by
  have hword : s.statusWord = w % 2 ^ s.cfg.statusW := State.statusWord_cons hans
  rw [step_no_event hh (by rwa [hword]), State.leaveHandler_eq, State.rdStatus_eq_takeStatus, State.takeStatus_cons hans, hword,
    State.returned, hans]
  rfl

/-! ### TICK resumed -/

/-- A TICK resumed in `s` has armed, whatever `protocol_state` was in `s`: the reception framer and the slots are as it found them, and
no reset path was taken (rules R104, R152). -/
structure ArmedOver (s t : State) : Prop where
  transmitting : t.protocolState = .transmitting
  byteCount : t.byteCount = 0
  totalBytes : t.totalBytes = txTotal s.cfg (s.byteAt .txbuf 2)
  bufferIn : t.bufferIn = s.bufferIn
  slotStatus : ∀ k, t.slotStatus k = s.slotStatus k
  slotByte : ∀ k n, t.slotByte k n = s.slotByte k n
  trace : ∃ es, t.trace = s.trace ++ es ∧ .queueClear ∉ es

theorem State.armedOver_respond_armTransmission (s : State) :
    ArmedOver s (s.opStart.senseCarrier.armTransmission.respond .ok 0) := by
  rw [State.armTransmission_eq, State.senseCarrier_eq, State.opStart_eq]
  refine ⟨rfl, rfl, rfl, rfl, fun _ => rfl, fun _ _ => rfl, _, List.append_assoc .., ?_⟩
  simp

/-- From the point after T1, uncut, a clear channel with the countdown at zero arms the queued packet (rules R102 to R104). -/
theorem runMainline_tickAfterIdle {s : State} (hr : s.RunsThrough) (hw : carrierIn s.cfg s.opStart.statusWord = false)
    (hfree : s.freeCount = 0) (htx : s.txRequest = .occupied) :
    runMainline tickAfterIdle s = .next (s.opStart.senseCarrier.armTransmission.respond .ok 0) := by
  have hclear : carrierIn s.opStart.cfg s.opStart.statusWord = false := by rwa [State.opStart_cfg]
  have hzero : s.opStart.senseCarrier.freeCount = 0 := by rw [State.senseCarrier_eq, State.opStart_freeCount, hfree]
  have hqueued : s.opStart.senseCarrier.txRequest = .occupied := by rw [State.senseCarrier_eq, State.opStart_txRequest, htx]
  rw [runMainline_through hr, tickAfterIdle, runMicros_point, runMicros_tickSense, hclear, if_neg Bool.false_ne_true,
    runMicros_point, runMicros_tickCount, if_pos hzero, runMicros_point, runMicros_tickArm, if_pos hqueued]

/-- The TICK suspended at the point after T1 goes on to arm, without a look at `protocol_state` (rule R152). -/
theorem step_tick_resumed {s : State} {w : Nat} {ws : List Nat} (hh : s.inHandler = false) (hm : s.mainline = tickAfterIdle)
    (hr : s.RunsThrough) (hans : s.statusAnswers = w :: ws) (hclear : (w % 2 ^ s.cfg.statusW) &&& s.cfg.carrierMask = 0)
    (hfree : s.freeCount = 0) (htx : s.txRequest = .occupied) : ∃ t, step s = .next t ∧ ArmedOver s t := by
  have hword : s.opStart.statusWord = w % 2 ^ s.cfg.statusW := by
    rw [State.statusWord_cons (s.opStart_statusAnswers.trans hans), State.opStart_cfg]
  have hcarrier : carrierIn s.cfg s.opStart.statusWord = false := by rwa [carrierIn_eq_false_iff, hword]
  exact ⟨_, (stepResumesMainline s _ _ hh hm).trans (runMainline_tickAfterIdle hr hcarrier hfree htx),
    s.armedOver_respond_armTransmission⟩

/-- Settles O54: the TICK is cut after T1, the invocation takes the length byte and returns, and the TICK resumed arms over it. -/
theorem checkThenActWindow : Obligations.CheckThenActWindow := by
  intro s w0 w1 w2 ws b bs cs ⟨hh, _⟩ hi hmask hpoll hrx hca hp hf htx hfree hsched hbytes hans hready hnone hclear
  have hadm : s.admitsHandler = true := s.admitsHandler_iff.mpr ⟨hi, hmask, hh, hpoll⟩
  have hcut := exec_tick_cut_after_idle hadm hrx hca hp hsched
  obtain ⟨m0, m1, htaken, hbyte⟩ := step_length_byte (s := s.cutAfterIdle (none :: cs)) rfl hp hf hbytes hans hready
  have htail : s.statusAnswers.tail = w1 :: w2 :: ws := congrArg List.tail hans
  have hreturn := step_return (s := (s.cutAfterIdle (none :: cs)).lengthByteTaken w0 b m0 m1) rfl htail hnone
  obtain ⟨t, harm, hpt, hbc, htot, hin, htag, hslot, es, htrace, hes⟩ :=
    step_tick_resumed (s := ((s.cutAfterIdle (none :: cs)).lengthByteTaken w0 b m0 m1).returned w1) rfl rfl
      (.inr rfl) (congrArg List.tail htail) hclear hfree htx
  refine ⟨_, _, _, t, hcut, htaken, hreturn, harm, rfl, rfl, rfl, hpt, hbc, htot, (htag _).trans hf, ?_, hin, ?_⟩
  · exact (hslot _ _).trans ((hbyte _ _).trans (if_pos ⟨rfl, rfl⟩))
  · have hdrop : t.trace.drop s.trace.length = [.intMask, .rdStatus (w0 % 2 ^ s.cfg.statusW), .rdByte b,
        .rdStatus (w1 % 2 ^ s.cfg.statusW), .intUnmask] ++ es := by
      rw [htrace]
      simp [State.returned, State.lengthByteTaken, State.cutAfterIdle]
    rw [hdrop]
    simpa using hes

end Sys2Proof.Machine
end
